-- ==== Sys2Proof/Word.lean ====
section
/-! DEFINITION. The words of RCD and the four byte fields of a command word (00_scope.md R6, R8; 30_encoding.md R100). -/

namespace Sys2Proof

/-- A byte: the width of every device register and of every field of a command word (R6, R100). -/
abbrev Byte := BitVec 8

/-- A 16-bit value: the width of key signals, reference data and response data (R25, R26, R120). -/
abbrev Half := BitVec 16

/-- A command word (R100). -/
abbrev Word := BitVec 32

/-- A valid key index, 0 to 6 (R6: `NUM_KEYS = 7`, key index in [0,6]). -/
abbrev Key := Fin 7

end Sys2Proof
end

