-- ==== Sys2Proof/Config.lean ====
section
/-! DEFINITION. What an implementation of RCD fixes (00_scope.md R7) and the free values of the model. The
constants without a body are open: nothing can be proved of them, so a claim holds whatever they are. -/

namespace Sys2Proof

/-- The transport's error, "an opaque type the model takes as a parameter" (60_exceptions.md R313, D21).
DESIGN CHOICE (log 4): the natural numbers, so that any error code of any width is one of them. -/
abbrev TErr := Nat

/-- What the device and the transport answer to one bus transaction (20_memory.md R75, R78): an error, or the
bytes that would come back; a transaction that reads `n` bytes takes the first `n` (log 6). -/
inductive DeviceReply where
  | ok (bytes : Vector Byte 58)
  | err (e : TErr)
  deriving DecidableEq, Repr, Inhabited

/-- The reset values the source does not give (00_scope.md R7, 10_state.md R61, D9). -/
structure ResetParams where
  dsCalibrate : Bool
  dsOverflow : Bool
  dsTouch : Bool
  keyTouch : BitVec 7
  keySignal : Vector Half 7
  referenceData : Vector Half 7
  ave : BitVec 6
  aks : BitVec 2
  fastOut : Bool
  maxCal : Bool
  guardChannel : BitVec 4
  calibrate : Byte
  reset : Byte
  deriving DecidableEq, Repr

namespace Config

/-- `DEVICE_ADDRESS`, the chip's fixed 7-bit bus address, which the source does not give (R7, D10; log 3). -/
opaque deviceAddress : BitVec 7

/-- The device as an oracle (R78, D22): the reply to the n-th transaction of the bus history when no reply is
scripted in the state (log 5). -/
opaque oracle : Nat → DeviceReply

/-- The `terr` of the n-th response where the spec leaves it unspecified (30_encoding.md R120; log 8). -/
opaque unspecifiedTErr : Nat → TErr

/-- The recommended values of the open reset parameters (R7, R61). DESIGN CHOICE (log 1) for the status, key,
signal, reference, calibrate and reset values; PRESUMED (log 2) for ave, aks, fast_out, max_cal and
guard_channel, which the spec takes from general knowledge of the chip. -/
def resetParams : ResetParams where
  dsCalibrate := false
  dsOverflow := false
  dsTouch := false
  keyTouch := 0
  keySignal := Vector.replicate 7 0
  referenceData := Vector.replicate 7 0
  ave := 8
  aks := 1
  fastOut := false
  maxCal := false
  guardChannel := 0
  calibrate := 0
  reset := 0

end Config

end Sys2Proof
end

