-- ==== Sys2Proof/Syntax.lean ====
section
/-! DEFINITION. Register identities (30_encoding.md R123) and the 53 commands (R104), one constructor per row of the opcode table. -/

namespace Sys2Proof

/-- A register id (g, k): "a closed tagged variant type with an attached key-index payload only for the
per-key cases" (30_encoding.md R100, R123). The constructors stand in the order of the group numbers
0 to 15 (10_state.md R42); the 58 values are the 58 device registers. -/
inductive Reg where
  | chipId
  | firmwareVersion
  | detectionStatus
  | keyStatus
  | keySignalMs (k : Key)
  | keySignalLs (k : Key)
  | referenceDataMs (k : Key)
  | referenceDataLs (k : Key)
  | negativeThreshold (k : Key)
  | aveAks (k : Key)
  | detectionIntegrator (k : Key)
  | foMcGuard
  | lowPowerMode
  | maxOnDuration
  | calibrate
  | reset
  deriving DecidableEq, Repr

/-- The 53 commands (R104). `r` is the register id of SEL and KEY, `k` the key index of KEY, `b` a raw byte,
`v` a typed SET operand as it stands in DATA (R107), `d` the ignored DATA of a read-only SET (R213). -/
inductive Instr where
  /-- DEC (R147). -/
  | dec (r : Reg) (b : Byte)
  /-- ENC (R167). -/
  | enc (r : Reg)
  /-- ADDR (R173). -/
  | addr (r : Reg)
  /-- SYNCA (R190). -/
  | synca
  /-- SYNC1 (R191). -/
  | sync1 (r : Reg)
  /-- WR (R211). -/
  | wr (r : Reg) (b : Byte)
  /-- SET.MAJOR (R214). -/
  | setMajor (d : Byte)
  /-- SET.MINOR (R215). -/
  | setMinor (d : Byte)
  /-- SET.FW (R216). -/
  | setFw (d : Byte)
  /-- SET.CALIBRATING (R217). -/
  | setCalibrating (d : Byte)
  /-- SET.OVERFLOW (R218). -/
  | setOverflow (d : Byte)
  /-- SET.TOUCH (R219). -/
  | setTouch (d : Byte)
  /-- SET.KEYS (R220). -/
  | setKeys (d : Byte)
  /-- SET.KEYTOUCH (R221). -/
  | setKeytouch (k : Key) (d : Byte)
  /-- SET.SIGNAL (R222). -/
  | setSignal (k : Key) (d : Byte)
  /-- SET.REF (R223). -/
  | setRef (k : Key) (d : Byte)
  /-- SET.NTHR (R224). -/
  | setNthr (k : Key) (v : Byte)
  /-- SET.AVE (R226). -/
  | setAve (k : Key) (v : Byte)
  /-- SET.AKS (R227). -/
  | setAks (k : Key) (v : Byte)
  /-- SET.DI (R225). -/
  | setDi (k : Key) (v : Byte)
  /-- SET.FMG (R229). -/
  | setFmg (v : Byte)
  /-- SET.FO (R230). -/
  | setFo (v : Byte)
  /-- SET.MC (R231). -/
  | setMc (v : Byte)
  /-- SET.GUARD (R232). -/
  | setGuard (v : Byte)
  /-- SET.LP (R228). -/
  | setLp (v : Byte)
  /-- SET.MAXON (R235). -/
  | setMaxon (v : Byte)
  /-- SET.CAL (R233). -/
  | setCal
  /-- SET.RST (R234). -/
  | setRst
  /-- GET.MAJOR (R261). -/
  | getMajor
  /-- GET.MINOR (R262). -/
  | getMinor
  /-- GET.FW (R263). -/
  | getFw
  /-- GET.CALIBRATING (R264). -/
  | getCalibrating
  /-- GET.OVERFLOW (R265). -/
  | getOverflow
  /-- GET.TOUCH (R266). -/
  | getTouch
  /-- GET.KEYS (R267). -/
  | getKeys
  /-- GET.KEYTOUCH (R268). -/
  | getKeytouch (k : Key)
  /-- GET.SIGNAL (R269). -/
  | getSignal (k : Key)
  /-- GET.REF (R270). -/
  | getRef (k : Key)
  /-- GET.NTHR (R271). -/
  | getNthr (k : Key)
  /-- GET.AVE (R272). -/
  | getAve (k : Key)
  /-- GET.AKS (R273). -/
  | getAks (k : Key)
  /-- GET.DI (R274). -/
  | getDi (k : Key)
  /-- GET.FMG (R275). -/
  | getFmg
  /-- GET.FO (R276). -/
  | getFo
  /-- GET.MC (R277). -/
  | getMc
  /-- GET.GUARD (R278). -/
  | getGuard
  /-- GET.LP (R279). -/
  | getLp
  /-- GET.MAXON (R280). -/
  | getMaxon
  /-- GET.CAL (R281). -/
  | getCal
  /-- GET.RST (R282). -/
  | getRst
  /-- LPI (R284). -/
  | lpi
  /-- MOD (R285). -/
  | mod
  /-- WCAL (R300). -/
  | wcal
  deriving DecidableEq, Repr

end Sys2Proof
end

