-- ==== Sys2Proof/WellFormed.lean ====
section
/-! DEFINITION. Which instructions are well formed: every typed SET operand fits its field (30_encoding.md R107).
Keys and register ids cannot be wrong: their types admit the 7 keys and the 58 registers only (R105, R123). -/

namespace Sys2Proof

/-- The operand check of R107, constructor by constructor: AVE 0..63, AKS 0..3, FMG 0..0x3F, FO and MC 0..1,
GUARD 0..15; every other operand is a whole byte or absent. -/
def Instr.wf : Instr → Bool
  | .dec _ _ => true
  | .enc _ => true
  | .addr _ => true
  | .synca => true
  | .sync1 _ => true
  | .wr _ _ => true
  | .setMajor _ => true
  | .setMinor _ => true
  | .setFw _ => true
  | .setCalibrating _ => true
  | .setOverflow _ => true
  | .setTouch _ => true
  | .setKeys _ => true
  | .setKeytouch _ _ => true
  | .setSignal _ _ => true
  | .setRef _ _ => true
  | .setNthr _ _ => true
  | .setAve _ v => decide (v.toNat < 64)
  | .setAks _ v => decide (v.toNat < 4)
  | .setDi _ _ => true
  | .setFmg v => decide (v.toNat < 64)
  | .setFo v => decide (v.toNat < 2)
  | .setMc v => decide (v.toNat < 2)
  | .setGuard v => decide (v.toNat < 16)
  | .setLp _ => true
  | .setMaxon _ => true
  | .setCal => true
  | .setRst => true
  | .getMajor => true
  | .getMinor => true
  | .getFw => true
  | .getCalibrating => true
  | .getOverflow => true
  | .getTouch => true
  | .getKeys => true
  | .getKeytouch _ => true
  | .getSignal _ => true
  | .getRef _ => true
  | .getNthr _ => true
  | .getAve _ => true
  | .getAks _ => true
  | .getDi _ => true
  | .getFmg => true
  | .getFo => true
  | .getMc => true
  | .getGuard => true
  | .getLp => true
  | .getMaxon => true
  | .getCal => true
  | .getRst => true
  | .lpi => true
  | .mod => true
  | .wcal => true

end Sys2Proof
end

