-- ==== Sys2Proof/Decode.lean ====
section
/-! DEFINITION. The decoder of command words (30_encoding.md R100 to R109), total and rejecting by name, and the
encoder written from the same tables. -/

namespace Sys2Proof

/-- Why a word is rejected, in the order of the checks of R108. The first four are ERR_ILLEGAL (R109), the
last is ERR_KEY (R312). -/
inductive DecodeError where
  /-- Step 1: OP is not one of the eleven of R101. -/
  | unknownOp
  /-- Step 2: SEL is outside the range its OP allows. -/
  | badSelector
  /-- Step 3: KEY is non-zero where no key is taken. -/
  | keyNotZero
  /-- Step 4: DATA is non-zero where none is taken, or does not fit the SET operand. -/
  | badData
  /-- Step 5: KEY is above 6 on a per-key selector. -/
  | keyRange
  deriving DecidableEq, Repr

/-- OP, bits 31:24 (R100). -/
def opField (w : Word) : Byte := w.extractLsb' 24 8

/-- SEL, bits 23:16 (R100). -/
def selField (w : Word) : Byte := w.extractLsb' 16 8

/-- KEY, bits 15:8 (R100). -/
def keyField (w : Word) : Byte := w.extractLsb' 8 8

/-- DATA, bits 7:0 (R100). -/
def dataField (w : Word) : Byte := w.extractLsb' 0 8

/-- The word `{OP, SEL, KEY, DATA}` (R100). -/
def packWord (op sel key data : Byte) : Word := op ++ sel ++ key ++ data

/-- A selector either takes no key or takes one (R105). -/
inductive Form (α : Type) where
  | scalar (x : α)
  | perKey (f : Key → α)

/-- What DATA may be (R106, R107): any byte, zero only, or an operand of `n` bits. -/
inductive DataRule where
  | any
  | zero
  | bits (n : Nat)
  deriving DecidableEq, Repr

/-- The check of step 4 of R108. -/
def DataRule.ok : DataRule → Byte → Bool
  | .any, _ => true
  | .zero, v => v == 0
  | .bits n, v => decide (v.toNat < 2 ^ n)

/-- A command as OP and SEL select it: how KEY and DATA complete it, and what DATA may be. -/
structure Command where
  form : Form (Byte → Instr)
  data : DataRule

/-- SEL as a group number (R102, 10_state.md R42); `none` above 0x0F. -/
def regForm : Nat → Option (Form Reg)
  | 0x00 => some (.scalar .chipId)
  | 0x01 => some (.scalar .firmwareVersion)
  | 0x02 => some (.scalar .detectionStatus)
  | 0x03 => some (.scalar .keyStatus)
  | 0x04 => some (.perKey .keySignalMs)
  | 0x05 => some (.perKey .keySignalLs)
  | 0x06 => some (.perKey .referenceDataMs)
  | 0x07 => some (.perKey .referenceDataLs)
  | 0x08 => some (.perKey .negativeThreshold)
  | 0x09 => some (.perKey .aveAks)
  | 0x0A => some (.perKey .detectionIntegrator)
  | 0x0B => some (.scalar .foMcGuard)
  | 0x0C => some (.scalar .lowPowerMode)
  | 0x0D => some (.scalar .maxOnDuration)
  | 0x0E => some (.scalar .calibrate)
  | 0x0F => some (.scalar .reset)
  | _ => none

/-- A command addressed by group number: DEC, ENC, ADDR, SYNC1, WR (R102). -/
def regCommand (mk : Reg → Byte → Instr) (rule : DataRule) (sel : Nat) : Except DecodeError Command :=
  match regForm sel with
  | some (.scalar r) => .ok { form := .scalar (mk r), data := rule }
  | some (.perKey f) => .ok { form := .perKey (fun k => mk (f k)), data := rule }
  | none => .error .badSelector

/-- A command with no selector: SEL must be 0 (R101). -/
def soloCommand (i : Instr) (sel : Nat) : Except DecodeError Command :=
  if sel = 0 then .ok { form := .scalar (fun _ => i), data := .zero } else .error .badSelector

/-- SEL as a field selector of SET (R103) with the operand rules of R107. -/
def setCommand : Nat → Except DecodeError Command
  | 0x00 => .ok { form := .scalar .setMajor, data := .any }
  | 0x01 => .ok { form := .scalar .setMinor, data := .any }
  | 0x02 => .ok { form := .scalar .setFw, data := .any }
  | 0x03 => .ok { form := .scalar .setCalibrating, data := .any }
  | 0x04 => .ok { form := .scalar .setOverflow, data := .any }
  | 0x05 => .ok { form := .scalar .setTouch, data := .any }
  | 0x06 => .ok { form := .scalar .setKeys, data := .any }
  | 0x07 => .ok { form := .perKey .setKeytouch, data := .any }
  | 0x08 => .ok { form := .perKey .setSignal, data := .any }
  | 0x09 => .ok { form := .perKey .setRef, data := .any }
  | 0x0A => .ok { form := .perKey .setNthr, data := .any }
  | 0x0B => .ok { form := .perKey .setAve, data := .bits 6 }
  | 0x0C => .ok { form := .perKey .setAks, data := .bits 2 }
  | 0x0D => .ok { form := .perKey .setDi, data := .any }
  | 0x0E => .ok { form := .scalar .setFmg, data := .bits 6 }
  | 0x0F => .ok { form := .scalar .setFo, data := .bits 1 }
  | 0x10 => .ok { form := .scalar .setMc, data := .bits 1 }
  | 0x11 => .ok { form := .scalar .setGuard, data := .bits 4 }
  | 0x12 => .ok { form := .scalar .setLp, data := .any }
  | 0x13 => .ok { form := .scalar .setMaxon, data := .any }
  | 0x14 => .ok { form := .scalar (fun _ => .setCal), data := .zero }
  | 0x15 => .ok { form := .scalar (fun _ => .setRst), data := .zero }
  | _ => .error .badSelector

/-- SEL as a field selector of GET (R103); DATA must be 0 (R106). -/
def getCommand : Nat → Except DecodeError Command
  | 0x00 => .ok { form := .scalar (fun _ => .getMajor), data := .zero }
  | 0x01 => .ok { form := .scalar (fun _ => .getMinor), data := .zero }
  | 0x02 => .ok { form := .scalar (fun _ => .getFw), data := .zero }
  | 0x03 => .ok { form := .scalar (fun _ => .getCalibrating), data := .zero }
  | 0x04 => .ok { form := .scalar (fun _ => .getOverflow), data := .zero }
  | 0x05 => .ok { form := .scalar (fun _ => .getTouch), data := .zero }
  | 0x06 => .ok { form := .scalar (fun _ => .getKeys), data := .zero }
  | 0x07 => .ok { form := .perKey (fun k _ => .getKeytouch k), data := .zero }
  | 0x08 => .ok { form := .perKey (fun k _ => .getSignal k), data := .zero }
  | 0x09 => .ok { form := .perKey (fun k _ => .getRef k), data := .zero }
  | 0x0A => .ok { form := .perKey (fun k _ => .getNthr k), data := .zero }
  | 0x0B => .ok { form := .perKey (fun k _ => .getAve k), data := .zero }
  | 0x0C => .ok { form := .perKey (fun k _ => .getAks k), data := .zero }
  | 0x0D => .ok { form := .perKey (fun k _ => .getDi k), data := .zero }
  | 0x0E => .ok { form := .scalar (fun _ => .getFmg), data := .zero }
  | 0x0F => .ok { form := .scalar (fun _ => .getFo), data := .zero }
  | 0x10 => .ok { form := .scalar (fun _ => .getMc), data := .zero }
  | 0x11 => .ok { form := .scalar (fun _ => .getGuard), data := .zero }
  | 0x12 => .ok { form := .scalar (fun _ => .getLp), data := .zero }
  | 0x13 => .ok { form := .scalar (fun _ => .getMaxon), data := .zero }
  | 0x14 => .ok { form := .scalar (fun _ => .getCal), data := .zero }
  | 0x15 => .ok { form := .scalar (fun _ => .getRst), data := .zero }
  | _ => .error .badSelector

/-- Steps 1 and 2 of R108: OP by the table of R101, then SEL as that OP demands. -/
def lookup (op sel : Nat) : Except DecodeError Command :=
  match op with
  | 0x01 => regCommand .dec .any sel
  | 0x02 => regCommand (fun r _ => .enc r) .zero sel
  | 0x03 => regCommand (fun r _ => .addr r) .zero sel
  | 0x10 => soloCommand .synca sel
  | 0x11 => regCommand (fun r _ => .sync1 r) .zero sel
  | 0x20 => regCommand .wr .any sel
  | 0x21 => setCommand sel
  | 0x30 => getCommand sel
  | 0x31 => soloCommand .lpi sel
  | 0x32 => soloCommand .mod sel
  | 0x40 => soloCommand .wcal sel
  | _ => .error .unknownOp

/-- Steps 3, 4 and 5 of R108 on the KEY and DATA bytes of a selected command. -/
def Command.complete (c : Command) (key data : Byte) : Except DecodeError Instr :=
  match c.form with
  | .scalar f =>
    if key ≠ 0 then .error .keyNotZero
    else if c.data.ok data then .ok (f data)
    else .error .badData
  | .perKey f =>
    if c.data.ok data then
      if h : key.toNat < 7 then .ok (f ⟨key.toNat, h⟩ data) else .error .keyRange
    else .error .badData

/-- The decoder: every one of the 2^32 words gets exactly one verdict, from the word alone (R108, R111). -/
def decode (w : Word) : Except DecodeError Instr :=
  match lookup (opField w).toNat (selField w).toNat with
  | .ok c => c.complete (keyField w) (dataField w)
  | .error e => .error e

/-- The SEL byte of a register id: its group number (10_state.md R42). -/
def Reg.sel : Reg → Byte
  | .chipId => 0x00
  | .firmwareVersion => 0x01
  | .detectionStatus => 0x02
  | .keyStatus => 0x03
  | .keySignalMs _ => 0x04
  | .keySignalLs _ => 0x05
  | .referenceDataMs _ => 0x06
  | .referenceDataLs _ => 0x07
  | .negativeThreshold _ => 0x08
  | .aveAks _ => 0x09
  | .detectionIntegrator _ => 0x0A
  | .foMcGuard => 0x0B
  | .lowPowerMode => 0x0C
  | .maxOnDuration => 0x0D
  | .calibrate => 0x0E
  | .reset => 0x0F

/-- A key index as a byte. -/
def keyByte (k : Key) : Byte := BitVec.ofNat 8 k.val

/-- The KEY byte of a register id: the key of a per-key group, 0 for a scalar one (R105, R123). -/
def Reg.keyByte : Reg → Byte
  | .keySignalMs k | .keySignalLs k | .referenceDataMs k | .referenceDataLs k
  | .negativeThreshold k | .aveAks k | .detectionIntegrator k => Sys2Proof.keyByte k
  | .chipId | .firmwareVersion | .detectionStatus | .keyStatus
  | .foMcGuard | .lowPowerMode | .maxOnDuration | .calibrate | .reset => 0

/-- The word of a command, from the encoding line of its own rule. -/
def encode : Instr → Word
  | .dec r b => packWord 0x01 r.sel r.keyByte b
  | .enc r => packWord 0x02 r.sel r.keyByte 0
  | .addr r => packWord 0x03 r.sel r.keyByte 0
  | .synca => packWord 0x10 0 0 0
  | .sync1 r => packWord 0x11 r.sel r.keyByte 0
  | .wr r b => packWord 0x20 r.sel r.keyByte b
  | .setMajor d => packWord 0x21 0x00 0 d
  | .setMinor d => packWord 0x21 0x01 0 d
  | .setFw d => packWord 0x21 0x02 0 d
  | .setCalibrating d => packWord 0x21 0x03 0 d
  | .setOverflow d => packWord 0x21 0x04 0 d
  | .setTouch d => packWord 0x21 0x05 0 d
  | .setKeys d => packWord 0x21 0x06 0 d
  | .setKeytouch k d => packWord 0x21 0x07 (keyByte k) d
  | .setSignal k d => packWord 0x21 0x08 (keyByte k) d
  | .setRef k d => packWord 0x21 0x09 (keyByte k) d
  | .setNthr k v => packWord 0x21 0x0A (keyByte k) v
  | .setAve k v => packWord 0x21 0x0B (keyByte k) v
  | .setAks k v => packWord 0x21 0x0C (keyByte k) v
  | .setDi k v => packWord 0x21 0x0D (keyByte k) v
  | .setFmg v => packWord 0x21 0x0E 0 v
  | .setFo v => packWord 0x21 0x0F 0 v
  | .setMc v => packWord 0x21 0x10 0 v
  | .setGuard v => packWord 0x21 0x11 0 v
  | .setLp v => packWord 0x21 0x12 0 v
  | .setMaxon v => packWord 0x21 0x13 0 v
  | .setCal => packWord 0x21 0x14 0 0
  | .setRst => packWord 0x21 0x15 0 0
  | .getMajor => packWord 0x30 0x00 0 0
  | .getMinor => packWord 0x30 0x01 0 0
  | .getFw => packWord 0x30 0x02 0 0
  | .getCalibrating => packWord 0x30 0x03 0 0
  | .getOverflow => packWord 0x30 0x04 0 0
  | .getTouch => packWord 0x30 0x05 0 0
  | .getKeys => packWord 0x30 0x06 0 0
  | .getKeytouch k => packWord 0x30 0x07 (keyByte k) 0
  | .getSignal k => packWord 0x30 0x08 (keyByte k) 0
  | .getRef k => packWord 0x30 0x09 (keyByte k) 0
  | .getNthr k => packWord 0x30 0x0A (keyByte k) 0
  | .getAve k => packWord 0x30 0x0B (keyByte k) 0
  | .getAks k => packWord 0x30 0x0C (keyByte k) 0
  | .getDi k => packWord 0x30 0x0D (keyByte k) 0
  | .getFmg => packWord 0x30 0x0E 0 0
  | .getFo => packWord 0x30 0x0F 0 0
  | .getMc => packWord 0x30 0x10 0 0
  | .getGuard => packWord 0x30 0x11 0 0
  | .getLp => packWord 0x30 0x12 0 0
  | .getMaxon => packWord 0x30 0x13 0 0
  | .getCal => packWord 0x30 0x14 0 0
  | .getRst => packWord 0x30 0x15 0 0
  | .lpi => packWord 0x31 0 0 0
  | .mod => packWord 0x32 0 0 0
  | .wcal => packWord 0x40 0 0 0

/-- The command word whose lowest `nbits` bits are those of `w`, the bits above them zero. A command is a value
on a port and has no byte order (R100). -/
def tableWord (nbits w : Nat) : Word := BitVec.ofNat 32 (w % 2 ^ nbits)

/-- What the decoder reads from a row of the opcode table (`none` where it rejects the word). -/
def decodeTableWord (nbits w : Nat) : Option Instr :=
  match decode (tableWord nbits w) with
  | .ok i => some i
  | .error _ => none

end Sys2Proof
end

