-- ==== Sys2Proof/Machine/State.lean ====
section
/-! DEFINITION. The state of RCD: the mirror (10_state.md R20 to R38), what the spec tells a model to keep beside
it (bus history, response port, WCAL phase), the host's and the device's inputs, and reset. -/

namespace Sys2Proof.Machine

/-- The mirror `M`, RCD's one piece of architectural state, 456 bits (R20, R38). One-bit fields are `Bool`;
`keyTouch` holds the seven flags of R24 as the 7-bit vector of R103, flag k in bit k (log 16). -/
structure Mirror where
  majorId : BitVec 4
  minorId : BitVec 4
  firmwareVersion : Byte
  dsCalibrate : Bool
  dsOverflow : Bool
  dsTouch : Bool
  keyTouch : BitVec 7
  keySignal : Vector Half 7
  referenceData : Vector Half 7
  negativeThreshold : Vector Byte 7
  ave : Vector (BitVec 6) 7
  aks : Vector (BitVec 2) 7
  detectionIntegrator : Vector Byte 7
  fastOut : Bool
  maxCal : Bool
  guardChannel : BitVec 4
  lowPowerMode : Byte
  maxOnDuration : Byte
  calibrate : Byte
  reset : Byte
  deriving DecidableEq, Repr

/-- The two transport primitives of the bus port (20_memory.md R75). -/
inductive BusKind where
  | write
  | writeThenRead
  deriving DecidableEq, Repr

/-- The reply of a transaction as the bus history records it (R75): the bytes read, or the error. -/
inductive BusReply where
  | ok (rbytes : List Byte)
  | err (e : TErr)
  deriving DecidableEq, Repr

/-- One event of the bus history (R79). -/
structure BusEvent where
  kind : BusKind
  dev : BitVec 7
  wbytes : List Byte
  rlen : Nat
  reply : BusReply
  deriving DecidableEq, Repr

/-- The status of a response (30_encoding.md R121). -/
inductive Status where
  | ok
  | errIllegal
  | errKey
  | errTransport
  deriving DecidableEq, Repr

/-- The response of a command (R120). -/
structure Response where
  status : Status
  data : Half
  flag : Bool
  terr : TErr
  deriving DecidableEq, Repr

/-- The three causes for which a command ends abnormally (60_exceptions.md R310). -/
inductive Cause where
  | illegal
  | keyRange
  | transport (e : TErr)
  deriving DecidableEq, Repr

/-- What the reset input, an input of its own beside the command port, does in one step (70_reset_and_hazards.md
R341; DESIGN CHOICE log 9: sampled once a step). -/
inductive ResetInput where
  /-- Not applied. -/
  | off
  /-- Applied while no command executes, or between two polls of WCAL: before anything else in the step. -/
  | between
  /-- Applied while the step's command executes; during a poll of WCAL, before that poll has its reply. -/
  | inside
  deriving DecidableEq, Repr

/-- RCD with its record and its surroundings. Only `mirror` is architectural state (R20). -/
structure State where
  /-- The mirror (R20). -/
  mirror : Mirror
  /-- The phase bit of WCAL, which exists only while WCAL executes (44_system.md R303). -/
  polling : Bool
  /-- Every bus request with its reply, oldest first (R79). -/
  history : List BusEvent
  /-- The response port: the response of the command that ended in the last step, if one did (R120). -/
  response : Option Response
  /-- The MODEL'S OWN: the words the host presents, in order; the first stands at the command port until RCD takes
  it (log 9). -/
  commands : List Word
  /-- The MODEL'S OWN: the reset input in each coming step; after these it is off (log 9). -/
  resets : List ResetInput
  /-- The MODEL'S OWN: the device's replies to the coming transactions (log 5). -/
  replies : List DeviceReply
  /-- The MODEL'S OWN: the reply to every transaction after those; `none`: each is a free value (log 5). -/
  repliesAfter : Option DeviceReply
  /-- The MODEL'S OWN: index of the next free value of an unspecified `terr` (log 8). -/
  freeIndex : Nat
  deriving DecidableEq, Repr

/-- Why the machine would stop. Nothing raises a fault: every error of RCD ends one command with a response and
RCD is ready for the next (60_exceptions.md R310, R315), so the type has no constructor (log 14). -/
inductive Fault where
  deriving DecidableEq, Repr

/-- Why a step has no next state. -/
inductive Refusal where
  /-- An instruction whose arm of exec gives no meaning yet; safe. No arm raises it: all 53 have theirs. -/
  | notModelled (mnemonic : String)
  /-- The reset input applied while a command other than WCAL executes, or while a word is being rejected. "not
  defined; a model should give it no step" (R341; log 11). Raised by step, by no instruction; safe. -/
  | resetInCommand
  deriving DecidableEq, Repr

/-- The mirror after reset (10_state.md R60), the values the source does not give taken as arguments (R61). -/
def Mirror.resetWith (p : ResetParams) : Mirror where
  majorId := 0x2
  minorId := 0xE
  firmwareVersion := 0x15
  dsCalibrate := p.dsCalibrate
  dsOverflow := p.dsOverflow
  dsTouch := p.dsTouch
  keyTouch := p.keyTouch
  keySignal := p.keySignal
  referenceData := p.referenceData
  negativeThreshold := Vector.replicate 7 0x14
  ave := Vector.replicate 7 p.ave
  aks := Vector.replicate 7 p.aks
  detectionIntegrator := Vector.replicate 7 0x04
  fastOut := p.fastOut
  maxCal := p.maxCal
  guardChannel := p.guardChannel
  lowPowerMode := 2
  maxOnDuration := 180
  calibrate := p.calibrate
  reset := p.reset

/-- RCD at power-on, right after reset (70_reset_and_hazards.md R342): the mirror at its reset values, not polling,
bus history empty, response port with nothing pending; the model's own fields as logs 5, 8 and 9 say. -/
def State.reset : State where
  mirror := Mirror.resetWith Config.resetParams
  polling := false
  history := []
  response := none
  commands := []
  resets := []
  replies := []
  repliesAfter := none
  freeIndex := 0

end Sys2Proof.Machine
end

