-- ==== Sys2Proof/Machine/Operands.lean ====
section
/-! DEFINITION. Operand forms: the register codec between mirror fields and register bytes (40_codec.md), the
address map, the gate table, the field assignments of the typed setters, and the operand widths. -/

namespace Sys2Proof.Machine

/-- decode(g, k, b) (R130 to R146): writes the fields of register `r` from byte `b`, and no other field. -/
def Mirror.decode (m : Mirror) (r : Reg) (b : Byte) : Mirror :=
  match r with
  | .chipId => { m with majorId := b.extractLsb' 4 4, minorId := b.extractLsb' 0 4 }
  | .firmwareVersion => { m with firmwareVersion := b }
  | .detectionStatus =>
    { m with dsCalibrate := b.getLsbD 7, dsOverflow := b.getLsbD 6, dsTouch := b.getLsbD 0 }
  | .keyStatus => { m with keyTouch := b.extractLsb' 0 7 }
  | .keySignalMs k => { m with keySignal := m.keySignal.set k (b ++ (m.keySignal[k]).extractLsb' 0 8) }
  | .keySignalLs k => { m with keySignal := m.keySignal.set k ((m.keySignal[k]).extractLsb' 8 8 ++ b) }
  | .referenceDataMs k =>
    { m with referenceData := m.referenceData.set k (b ++ (m.referenceData[k]).extractLsb' 0 8) }
  | .referenceDataLs k =>
    { m with referenceData := m.referenceData.set k ((m.referenceData[k]).extractLsb' 8 8 ++ b) }
  | .negativeThreshold k => { m with negativeThreshold := m.negativeThreshold.set k b }
  | .aveAks k => { m with ave := m.ave.set k (b.extractLsb' 2 6), aks := m.aks.set k (b.extractLsb' 0 2) }
  | .detectionIntegrator k => { m with detectionIntegrator := m.detectionIntegrator.set k b }
  | .foMcGuard =>
    { m with fastOut := b.getLsbD 5, maxCal := b.getLsbD 4, guardChannel := b.extractLsb' 0 4 }
  | .lowPowerMode => { m with lowPowerMode := b }
  | .maxOnDuration => { m with maxOnDuration := b }
  | .calibrate => { m with calibrate := b }
  | .reset => { m with reset := b }

/-- encode(g, k) (R150 to R166): the byte of register `r`, reserved bits 0. -/
def Mirror.encode (m : Mirror) (r : Reg) : Byte :=
  match r with
  | .chipId => m.majorId ++ m.minorId
  | .firmwareVersion => m.firmwareVersion
  | .detectionStatus =>
    BitVec.ofBool m.dsCalibrate ++ BitVec.ofBool m.dsOverflow ++ 0#5 ++ BitVec.ofBool m.dsTouch
  | .keyStatus => 0#1 ++ m.keyTouch
  | .keySignalMs k => (m.keySignal[k]).extractLsb' 8 8
  | .keySignalLs k => (m.keySignal[k]).extractLsb' 0 8
  | .referenceDataMs k => (m.referenceData[k]).extractLsb' 8 8
  | .referenceDataLs k => (m.referenceData[k]).extractLsb' 0 8
  | .negativeThreshold k => m.negativeThreshold[k]
  | .aveAks k => m.ave[k] ++ m.aks[k]
  | .detectionIntegrator k => m.detectionIntegrator[k]
  | .foMcGuard => 0#2 ++ BitVec.ofBool m.fastOut ++ BitVec.ofBool m.maxCal ++ m.guardChannel
  | .lowPowerMode => m.lowPowerMode
  | .maxOnDuration => m.maxOnDuration
  | .calibrate => m.calibrate
  | .reset => m.reset

/-- The defined-bits mask of a register (R174). -/
def definedBits : Reg → Byte
  | .detectionStatus => 0xC1
  | .keyStatus => 0x7F
  | .foMcGuard => 0x3F
  | .chipId | .firmwareVersion | .keySignalMs _ | .keySignalLs _ | .referenceDataMs _ | .referenceDataLs _
  | .negativeThreshold _ | .aveAks _ | .detectionIntegrator _ | .lowPowerMode | .maxOnDuration
  | .calibrate | .reset => 0xFF

/-- addressOf(g, k) = base[g] + stride[g] * k (R170). The ascending key order is the rule's (log 12). -/
def addressOf : Reg → Byte
  | .chipId => 0x00
  | .firmwareVersion => 0x01
  | .detectionStatus => 0x02
  | .keyStatus => 0x03
  | .keySignalMs k => 0x04 + 2 * keyByte k
  | .keySignalLs k => 0x05 + 2 * keyByte k
  | .referenceDataMs k => 0x12 + 2 * keyByte k
  | .referenceDataLs k => 0x13 + 2 * keyByte k
  | .negativeThreshold k => 0x20 + keyByte k
  | .aveAks k => 0x27 + keyByte k
  | .detectionIntegrator k => 0x2E + keyByte k
  | .foMcGuard => 0x35
  | .lowPowerMode => 0x36
  | .maxOnDuration => 0x37
  | .calibrate => 0x38
  | .reset => 0x39

/-- regOf(a), the register at address `a`, 0x00 to 0x39 (R171). -/
def regOf (a : Fin 58) : Reg :=
  if a.val = 0x00 then .chipId
  else if a.val = 0x01 then .firmwareVersion
  else if a.val = 0x02 then .detectionStatus
  else if h : a.val < 0x04 then .keyStatus
  else if h' : a.val < 0x12 then
    if a.val % 2 = 0 then .keySignalMs ⟨(a.val - 0x04) / 2, by omega⟩
    else .keySignalLs ⟨(a.val - 0x05) / 2, by omega⟩
  else if h' : a.val < 0x20 then
    if a.val % 2 = 0 then .referenceDataMs ⟨(a.val - 0x12) / 2, by omega⟩
    else .referenceDataLs ⟨(a.val - 0x13) / 2, by omega⟩
  else if h' : a.val < 0x27 then .negativeThreshold ⟨a.val - 0x20, by omega⟩
  else if h' : a.val < 0x2E then .aveAks ⟨a.val - 0x27, by omega⟩
  else if h' : a.val < 0x35 then .detectionIntegrator ⟨a.val - 0x2E, by omega⟩
  else if a.val = 0x35 then .foMcGuard
  else if a.val = 0x36 then .lowPowerMode
  else if a.val = 0x37 then .maxOnDuration
  else if a.val = 0x38 then .calibrate
  else .reset

/-- The byte image of the mirror (R172): image(M)[a] = encode(regOf(a)). -/
def Mirror.image (m : Mirror) (a : Fin 58) : Byte := m.encode (regOf a)

/-- Decode every register of a 58-byte buffer in address order (41_sync.md R190). -/
def Mirror.decodeAll (m : Mirror) (buf : Vector Byte 58) : Mirror :=
  (List.finRange 58).foldl (fun m a => m.decode (regOf a) buf[a]) m

/-- writable(g), the gate predicate (20_memory.md R90); the key plays no part. -/
def writable : Reg → Bool
  | .chipId | .firmwareVersion | .detectionStatus | .keyStatus
  | .keySignalMs _ | .keySignalLs _ | .referenceDataMs _ | .referenceDataLs _ => false
  | .negativeThreshold _ | .aveAks _ | .detectionIntegrator _
  | .foMcGuard | .lowPowerMode | .maxOnDuration | .calibrate | .reset => true

/-- `M.negative_threshold[k] <- v` (42_write.md R224). -/
def Mirror.setNthr (m : Mirror) (k : Key) (v : Byte) : Mirror :=
  { m with negativeThreshold := m.negativeThreshold.set k v }

/-- `M.ave[k] <- v[5:0]` (R226). -/
def Mirror.setAve (m : Mirror) (k : Key) (v : Byte) : Mirror :=
  { m with ave := m.ave.set k (v.extractLsb' 0 6) }

/-- `M.aks[k] <- v[1:0]` (R227). -/
def Mirror.setAks (m : Mirror) (k : Key) (v : Byte) : Mirror :=
  { m with aks := m.aks.set k (v.extractLsb' 0 2) }

/-- `M.detection_integrator[k] <- v` (R225). -/
def Mirror.setDi (m : Mirror) (k : Key) (v : Byte) : Mirror :=
  { m with detectionIntegrator := m.detectionIntegrator.set k v }

/-- `M.fast_out <- v[5]; M.max_cal <- v[4]; M.guard_channel <- v[3:0]` (R229). -/
def Mirror.setFmg (m : Mirror) (v : Byte) : Mirror :=
  { m with fastOut := v.getLsbD 5, maxCal := v.getLsbD 4, guardChannel := v.extractLsb' 0 4 }

/-- `M.fast_out <- v[0]` (R230). -/
def Mirror.setFo (m : Mirror) (v : Byte) : Mirror := { m with fastOut := v.getLsbD 0 }

/-- `M.max_cal <- v[0]` (R231). -/
def Mirror.setMc (m : Mirror) (v : Byte) : Mirror := { m with maxCal := v.getLsbD 0 }

/-- `M.guard_channel <- v[3:0]` (R232). -/
def Mirror.setGuard (m : Mirror) (v : Byte) : Mirror := { m with guardChannel := v.extractLsb' 0 4 }

/-- `M.low_power_mode <- v` (R228). -/
def Mirror.setLp (m : Mirror) (v : Byte) : Mirror := { m with lowPowerMode := v }

/-- `M.max_on_duration <- v` (R235). -/
def Mirror.setMaxon (m : Mirror) (v : Byte) : Mirror := { m with maxOnDuration := v }

/-- `M.calibrate <- 0x01` (R233). -/
def Mirror.setCal (m : Mirror) : Mirror := { m with calibrate := 0x01 }

/-- `M.reset <- 0x01` (R234). -/
def Mirror.setRst (m : Mirror) : Mirror := { m with reset := 0x01 }

/-- `M.key_touch[k]` (R24). -/
def Mirror.keyTouchAt (m : Mirror) (k : Key) : Bool := m.keyTouch.getLsbD k

/-- zext_16 of a field of at most 16 bits (00_scope.md R8). -/
def zext16 {n : Nat} (v : BitVec n) : Half := v.setWidth 16

/-- zext_16 of a one-bit field. -/
def zextBit (b : Bool) : Half := zext16 (BitVec.ofBool b)

/-- LPI's interval in milliseconds (43_get.md R284): raw 0 is read as 1. -/
def lowPowerInterval (n : Byte) : Half := if n = 0 then 8 else zext16 n * 8

/-- MOD's duration in milliseconds (R285); 0 when disabled. -/
def maxOnMillis (n : Byte) : Half := zext16 n * 160

end Sys2Proof.Machine
end

