-- ==== Sys2Proof/Machine/Flags.lean ====
section
/-! DEFINITION. The computations of the response's `flag` and status codes. RCD keeps no flag between commands
(10_state.md R41); the flag bit belongs to one response (30_encoding.md R122). -/

namespace Sys2Proof.Machine

/-- The status code of R121. -/
def Status.code : Status → BitVec 2
  | .ok => 0
  | .errIllegal => 1
  | .errKey => 2
  | .errTransport => 3

/-- The status a cause is reported with (60_exceptions.md R310). -/
def Cause.status : Cause → Status
  | .illegal => .errIllegal
  | .keyRange => .errKey
  | .transport _ => .errTransport

/-- The error a cause passes to `terr`, if the spec gives one (R120, R313). -/
def Cause.terr : Cause → Option TErr
  | .illegal => none
  | .keyRange => none
  | .transport e => some e

/-- The cause a rejected word is reported with (30_encoding.md R108). -/
def rejectionCause : DecodeError → Cause
  | .unknownOp => .illegal
  | .badSelector => .illegal
  | .keyNotZero => .illegal
  | .badData => .illegal
  | .keyRange => .keyRange

/-- GET.GUARD's flag: "no guard channel", 7 or more (43_get.md R278). -/
def guardNone (g : BitVec 4) : Bool := decide (7 ≤ g.toNat)

/-- MOD's flag: the limit is disabled, raw 0 (R285). -/
def maxOnDisabled (n : Byte) : Bool := n == 0

end Sys2Proof.Machine
end

