-- ==== Sys2Proof/Machine/Ops.lean ====
section
/-! DEFINITION. The named operations over the state: the bus port, the response port, ending a command with an
error, the write gate, the reset input, and what the host presents next. -/

namespace Sys2Proof.Machine

/-- The device's reply to the next transaction (20_memory.md R78): scripted, or steady, or free (log 5). -/
def State.nextReply (s : State) : DeviceReply :=
  match s.replies with
  | r :: _ => r
  | [] => s.repliesAfter.getD (Config.oracle s.history.length)

/-- A reply as the bus carries it to a transaction that reads `n` bytes: exactly `n` bytes, or the error (R75). -/
def onBus (r : DeviceReply) (n : Nat) : BusReply :=
  match r with
  | .ok bytes => .ok (bytes.toList.take n)
  | .err e => .err e

/-- The event of `MemRead(addr, n)` (R76). -/
def readEvent (addr : Byte) (n : Nat) (r : DeviceReply) : BusEvent :=
  { kind := .writeThenRead, dev := Config.deviceAddress, wbytes := [addr], rlen := n, reply := onBus r n }

/-- The event of `MemWrite(addr, 1, v)` (R77). -/
def writeEvent (addr v : Byte) (r : DeviceReply) : BusEvent :=
  { kind := .write, dev := Config.deviceAddress, wbytes := [addr, v], rlen := 0, reply := onBus r 0 }

/-- One transaction: its event joins the history (R79) and its reply is used up. -/
def State.record (s : State) (e : BusEvent) : State :=
  { s with history := s.history ++ [e], replies := s.replies.tail }

/-- `MemRead(addr, n)` (R76): the reply and the state after the transaction. -/
def memRead (addr : Byte) (n : Nat) (s : State) : DeviceReply × State :=
  (s.nextReply, s.record (readEvent addr n s.nextReply))

/-- `MemWrite(addr, 1, v)` (R77). -/
def memWrite (addr v : Byte) (s : State) : DeviceReply × State :=
  (s.nextReply, s.record (writeEvent addr v s.nextReply))

/-- The mirror update of a command. -/
def State.setMirror (s : State) (m : Mirror) : State := { s with mirror := m }

/-- A command ends with its one response (30_encoding.md R120) and RCD is idle again (R124). A `terr` the spec
leaves unspecified is a free value (log 8). -/
def finish (st : Status) (d : Half) (f : Bool) (te : Option TErr) (s : State) : State :=
  { s with
    response := some { status := st, data := d, flag := f,
                       terr := te.getD (Config.unspecifiedTErr s.freeIndex) }
    freeIndex := s.freeIndex + 1
    polling := false }

/-- `respond(d, f)` (R120): status OK. -/
def respond (d : Half) (f : Bool) (s : State) : State := finish .ok d f none s

/-- TAKING AN EXCEPTION: `raise c` ends the command with the cause's status, data 0 and flag 0; nothing is saved, no
mode changes, and the next command starts afresh (60_exceptions.md R310 to R313, R319). There is no return from it:
nothing is there to restore (R320). -/
def raise (c : Cause) (s : State) : State := finish c.status 0 false c.terr s

/-- A write dropped by the gate (42_write.md R210): status OK, data 0, flag 1, nothing else. -/
def drop (s : State) : State := respond 0 true s

/-- The write-through of register `r` after its mirror update `upd` (R211, R212): mirror first, then one bus write of
the whole byte; the mirror keeps the new value if the write fails (R236). -/
def writeThrough (r : Reg) (upd : Mirror → Mirror) (s : State) : State :=
  let s1 := s.setMirror (upd s.mirror)
  let b := s1.mirror.encode r
  match memWrite (addressOf r) b s1 with
  | (.err e, s2) => raise (.transport e) s2
  | (.ok _, s2) => respond (zext16 b) false s2

/-- The write-only-if-permitted gate in front of every write (R210). -/
def gatedWrite (r : Reg) (upd : Mirror → Mirror) (s : State) : State :=
  if writable r then writeThrough r upd s else drop s

/-- The operand check of a typed setter (R212, 30_encoding.md R107), then the write. -/
def checkedWrite (rule : DataRule) (v : Byte) (r : Reg) (upd : Mirror → Mirror) (s : State) : State :=
  if rule.ok v then gatedWrite r upd s else raise .illegal s

/-- The reset input (70_reset_and_hazards.md R340, R341): every mirror field to its reset value, a polling WCAL ended
without a response, no bus transaction, the history unchanged. -/
def applyReset (s : State) : State :=
  { s with mirror := Mirror.resetWith Config.resetParams, polling := false, response := none }

/-- What the reset input does in this step (log 9). -/
def State.resetNow (s : State) : ResetInput := s.resets.head?.getD .off

/-- A step begins: the response of an earlier command is gone (30_encoding.md R120, log 8), and this step's reset
input is used up. -/
def State.listen (s : State) : State := { s with response := none, resets := s.resets.tail }

/-- The first waiting word is taken from the command port; `rest` still waits. -/
def State.take (s : State) (rest : List Word) : State := { s with commands := rest }

/-- The reset input applied during a poll of WCAL (R341): the poll has its reply, whatever it is, and WCAL ends
without a response. -/
def abandonPoll (s : State) : State := applyReset (memRead 0x02 1 s).2

/-- What one step comes to. -/
inductive Turn where
  /-- A command, or the next poll of WCAL, runs. -/
  | runs (i : Instr) (s : State)
  /-- The step ends here: nothing presented, a word rejected, or reset. -/
  | ends (s : State)
  /-- The spec gives no step (R341). -/
  | noStep
  deriving DecidableEq, Repr

/-- A word at the port of an idle RCD: a legal one is handed to its rule, any other ends at once with its error (R108,
60_exceptions.md R316). -/
def accept (w : Word) (s : State) : Turn :=
  match decode w with
  | .ok i => .runs i s
  | .error e => .ends (raise (rejectionCause e) s)

/-- What runs next, the reset input aside. While WCAL polls its next poll does, and a waiting word stays at the port
(R124, R359); else the first waiting word is taken; with none, RCD stays idle. That a word waits, in order, is the
model's choice: the handshake of the port is left open (DESIGN CHOICE log 9, D23). -/
def nextCommand (s : State) : Turn :=
  if s.polling then .runs .wcal s.listen
  else match s.commands with
    | [] => .ends s.listen
    | w :: rest => accept w (s.listen.take rest)

/-- One turn, by the reset input (R340, R341, R359). It is looked at in every step, polling or not, whether or not a
word waits. Between commands or polls it acts alone; inside a poll of WCAL it acts once the poll has its reply; inside
any other command there is no step; and where nothing executes `inside` is no different from `between`. -/
def fetch (s : State) : Turn :=
  match s.resetNow with
  | .off => nextCommand s
  | .between => .ends (applyReset s.listen)
  | .inside =>
    match nextCommand s with
    | .runs i s1 => if i = .wcal then .ends (abandonPoll s1) else .noStep
    | .ends s1 => if s.commands = [] then .ends (applyReset s1) else .noStep
    | .noStep => .noStep

/-- The host presents `w` ahead of the words that wait, with the reset input off in the next step (log 9). -/
def present (w : Word) (s : State) : State :=
  { s with commands := w :: s.commands, resets := .off :: s.resets, polling := false }

end Sys2Proof.Machine
end

