-- ==== Sys2Proof/Machine/Codec.lean ====
section
/-! DEFINITION. The codec family: DEC, ENC, ADDR (40_codec.md). None touches the bus; the gate plays no part. -/

namespace Sys2Proof.Machine

/-- DEC (R147). -/
def execDec (r : Reg) (b : Byte) (s : State) : Host.Outcome State Fault Refusal :=
  let s1 := s.setMirror (s.mirror.decode r b)
  .next (respond (zext16 (s1.mirror.encode r)) false s1)

/-- ENC (R167). -/
def execEnc (r : Reg) (s : State) : Host.Outcome State Fault Refusal :=
  .next (respond (zext16 (s.mirror.encode r)) false s)

/-- ADDR (R173). -/
def execAddr (r : Reg) (s : State) : Host.Outcome State Fault Refusal :=
  .next (respond (zext16 (addressOf r)) false s)

end Sys2Proof.Machine
end

