-- ==== Sys2Proof/Machine/Get.lean ====
section
/-! DEFINITION. The getter family: the 22 cached getters, LPI and MOD (43_get.md). None touches the bus or the mirror. -/

namespace Sys2Proof.Machine

/-- GET.MAJOR (R261). -/
def execGetMajor (s : State) : Host.Outcome State Fault Refusal :=
  .next (respond (zext16 s.mirror.majorId) false s)

/-- GET.MINOR (R262). -/
def execGetMinor (s : State) : Host.Outcome State Fault Refusal :=
  .next (respond (zext16 s.mirror.minorId) false s)

/-- GET.FW (R263). -/
def execGetFw (s : State) : Host.Outcome State Fault Refusal :=
  .next (respond (zext16 s.mirror.firmwareVersion) false s)

/-- GET.CALIBRATING (R264). -/
def execGetCalibrating (s : State) : Host.Outcome State Fault Refusal :=
  .next (respond (zextBit s.mirror.dsCalibrate) false s)

/-- GET.OVERFLOW (R265). -/
def execGetOverflow (s : State) : Host.Outcome State Fault Refusal :=
  .next (respond (zextBit s.mirror.dsOverflow) false s)

/-- GET.TOUCH (R266). -/
def execGetTouch (s : State) : Host.Outcome State Fault Refusal :=
  .next (respond (zextBit s.mirror.dsTouch) false s)

/-- GET.KEYS (R267). -/
def execGetKeys (s : State) : Host.Outcome State Fault Refusal :=
  .next (respond (zext16 s.mirror.keyTouch) false s)

/-- GET.KEYTOUCH (R268). -/
def execGetKeytouch (k : Key) (s : State) : Host.Outcome State Fault Refusal :=
  .next (respond (zextBit (s.mirror.keyTouchAt k)) false s)

/-- GET.SIGNAL (R269). -/
def execGetSignal (k : Key) (s : State) : Host.Outcome State Fault Refusal :=
  .next (respond (s.mirror.keySignal[k]) false s)

/-- GET.REF (R270). -/
def execGetRef (k : Key) (s : State) : Host.Outcome State Fault Refusal :=
  .next (respond (s.mirror.referenceData[k]) false s)

/-- GET.NTHR (R271). -/
def execGetNthr (k : Key) (s : State) : Host.Outcome State Fault Refusal :=
  .next (respond (zext16 s.mirror.negativeThreshold[k]) false s)

/-- GET.AVE (R272). -/
def execGetAve (k : Key) (s : State) : Host.Outcome State Fault Refusal :=
  .next (respond (zext16 s.mirror.ave[k]) false s)

/-- GET.AKS (R273). -/
def execGetAks (k : Key) (s : State) : Host.Outcome State Fault Refusal :=
  .next (respond (zext16 s.mirror.aks[k]) false s)

/-- GET.DI (R274). -/
def execGetDi (k : Key) (s : State) : Host.Outcome State Fault Refusal :=
  .next (respond (zext16 s.mirror.detectionIntegrator[k]) false s)

/-- GET.FMG (R275). -/
def execGetFmg (s : State) : Host.Outcome State Fault Refusal :=
  .next (respond (zext16 (s.mirror.encode .foMcGuard)) false s)

/-- GET.FO (R276). -/
def execGetFo (s : State) : Host.Outcome State Fault Refusal :=
  .next (respond (zextBit s.mirror.fastOut) false s)

/-- GET.MC (R277). -/
def execGetMc (s : State) : Host.Outcome State Fault Refusal :=
  .next (respond (zextBit s.mirror.maxCal) false s)

/-- GET.GUARD (R278). -/
def execGetGuard (s : State) : Host.Outcome State Fault Refusal :=
  .next (respond (zext16 s.mirror.guardChannel) (guardNone s.mirror.guardChannel) s)

/-- GET.LP (R279). -/
def execGetLp (s : State) : Host.Outcome State Fault Refusal :=
  .next (respond (zext16 s.mirror.lowPowerMode) false s)

/-- GET.MAXON (R280). -/
def execGetMaxon (s : State) : Host.Outcome State Fault Refusal :=
  .next (respond (zext16 s.mirror.maxOnDuration) false s)

/-- GET.CAL (R281). -/
def execGetCal (s : State) : Host.Outcome State Fault Refusal :=
  .next (respond (zext16 s.mirror.calibrate) false s)

/-- GET.RST (R282). -/
def execGetRst (s : State) : Host.Outcome State Fault Refusal :=
  .next (respond (zext16 s.mirror.reset) false s)

/-- LPI (R284). -/
def execLpi (s : State) : Host.Outcome State Fault Refusal :=
  .next (respond (lowPowerInterval s.mirror.lowPowerMode) false s)

/-- MOD (R285). -/
def execMod (s : State) : Host.Outcome State Fault Refusal :=
  .next (respond (maxOnMillis s.mirror.maxOnDuration) (maxOnDisabled s.mirror.maxOnDuration) s)

end Sys2Proof.Machine
end

