-- ==== Sys2Proof/Machine/Sync.lean ====
section
/-! DEFINITION. The synchronisation family: SYNCA, SYNC1 (41_sync.md). -/

namespace Sys2Proof.Machine

/-- SYNCA (R190): one 58-byte read at 0x00; on success every register is decoded in address order. -/
def execSynca (s : State) : Host.Outcome State Fault Refusal :=
  .next (match memRead 0x00 58 s with
    | (.err e, s1) => raise (.transport e) s1
    | (.ok buf, s1) => respond 0 false (s1.setMirror (s1.mirror.decodeAll buf)))

/-- SYNC1 (R191): one single-byte read at addressOf(g, k); on success that register alone is decoded. -/
def execSync1 (r : Reg) (s : State) : Host.Outcome State Fault Refusal :=
  .next (match memRead (addressOf r) 1 s with
    | (.err e, s1) => raise (.transport e) s1
    | (.ok buf, s1) =>
      let s2 := s1.setMirror (s1.mirror.decode r buf[0])
      respond (zext16 (s2.mirror.encode r)) false s2)

end Sys2Proof.Machine
end

