-- ==== Sys2Proof/Machine/System.lean ====
section
/-! DEFINITION. The system family: WCAL (44_system.md), in the small-step reading of R303. -/

namespace Sys2Proof.Machine

/-- WCAL polls again, at once: no response yet. -/
def keepPolling (s : State) : State := { s with polling := true, response := none }

/-- WCAL (R300, R301, R303): one poll of DetectionStatus, then the test; the first poll comes before any test. It
responds on the first poll that reads the flag clear, ends on a failed poll, and otherwise goes on polling (R302). -/
def execWcal (s : State) : Host.Outcome State Fault Refusal :=
  .next (match memRead 0x02 1 s with
    | (.err e, s1) => raise (.transport e) s1
    | (.ok buf, s1) =>
      let s2 := s1.setMirror (s1.mirror.decode .detectionStatus buf[0])
      if s2.mirror.dsCalibrate then keepPolling s2
      else respond (zext16 (s2.mirror.encode .detectionStatus)) false s2)

end Sys2Proof.Machine
end

