-- ==== Sys2Proof/Machine/Write.lean ====
section
/-! DEFINITION. The write family: WR and the 22 typed setters (42_write.md). -/

namespace Sys2Proof.Machine

/-- WR (R211): gate, decode, write the re-encoded byte. -/
def execWr (r : Reg) (b : Byte) (s : State) : Host.Outcome State Fault Refusal :=
  .next (gatedWrite r (fun m => m.decode r b) s)

/-- SET.MAJOR (R214): the field is read-only, so the gate drops the command; DATA is ignored (R213). -/
def execSetMajor (_d : Byte) (s : State) : Host.Outcome State Fault Refusal := .next (drop s)

/-- SET.MINOR (R215): the field is read-only, so the gate drops the command; DATA is ignored (R213). -/
def execSetMinor (_d : Byte) (s : State) : Host.Outcome State Fault Refusal := .next (drop s)

/-- SET.FW (R216): the field is read-only, so the gate drops the command; DATA is ignored (R213). -/
def execSetFw (_d : Byte) (s : State) : Host.Outcome State Fault Refusal := .next (drop s)

/-- SET.CALIBRATING (R217): the field is read-only, so the gate drops the command; DATA is ignored (R213). -/
def execSetCalibrating (_d : Byte) (s : State) : Host.Outcome State Fault Refusal := .next (drop s)

/-- SET.OVERFLOW (R218): the field is read-only, so the gate drops the command; DATA is ignored (R213). -/
def execSetOverflow (_d : Byte) (s : State) : Host.Outcome State Fault Refusal := .next (drop s)

/-- SET.TOUCH (R219): the field is read-only, so the gate drops the command; DATA is ignored (R213). -/
def execSetTouch (_d : Byte) (s : State) : Host.Outcome State Fault Refusal := .next (drop s)

/-- SET.KEYS (R220): the field is read-only, so the gate drops the command; DATA is ignored (R213). -/
def execSetKeys (_d : Byte) (s : State) : Host.Outcome State Fault Refusal := .next (drop s)

/-- SET.KEYTOUCH (R221): the field is read-only, so the gate drops the command; DATA is ignored (R213). -/
def execSetKeytouch (_k : Key) (_d : Byte) (s : State) : Host.Outcome State Fault Refusal := .next (drop s)

/-- SET.SIGNAL (R222): the field is read-only, so the gate drops the command; DATA is ignored (R213). -/
def execSetSignal (_k : Key) (_d : Byte) (s : State) : Host.Outcome State Fault Refusal := .next (drop s)

/-- SET.REF (R223): the field is read-only, so the gate drops the command; DATA is ignored (R213). -/
def execSetRef (_k : Key) (_d : Byte) (s : State) : Host.Outcome State Fault Refusal := .next (drop s)

/-- SET.NTHR (R224, R212). -/
def execSetNthr (k : Key) (v : Byte) (s : State) : Host.Outcome State Fault Refusal :=
  .next (checkedWrite .any v (.negativeThreshold k) (fun m => m.setNthr k v) s)

/-- SET.AVE (R226, R212). -/
def execSetAve (k : Key) (v : Byte) (s : State) : Host.Outcome State Fault Refusal :=
  .next (checkedWrite (.bits 6) v (.aveAks k) (fun m => m.setAve k v) s)

/-- SET.AKS (R227, R212). -/
def execSetAks (k : Key) (v : Byte) (s : State) : Host.Outcome State Fault Refusal :=
  .next (checkedWrite (.bits 2) v (.aveAks k) (fun m => m.setAks k v) s)

/-- SET.DI (R225, R212). -/
def execSetDi (k : Key) (v : Byte) (s : State) : Host.Outcome State Fault Refusal :=
  .next (checkedWrite .any v (.detectionIntegrator k) (fun m => m.setDi k v) s)

/-- SET.FMG (R229, R212). -/
def execSetFmg (v : Byte) (s : State) : Host.Outcome State Fault Refusal :=
  .next (checkedWrite (.bits 6) v .foMcGuard (fun m => m.setFmg v) s)

/-- SET.FO (R230, R212). -/
def execSetFo (v : Byte) (s : State) : Host.Outcome State Fault Refusal :=
  .next (checkedWrite (.bits 1) v .foMcGuard (fun m => m.setFo v) s)

/-- SET.MC (R231, R212). -/
def execSetMc (v : Byte) (s : State) : Host.Outcome State Fault Refusal :=
  .next (checkedWrite (.bits 1) v .foMcGuard (fun m => m.setMc v) s)

/-- SET.GUARD (R232, R212). -/
def execSetGuard (v : Byte) (s : State) : Host.Outcome State Fault Refusal :=
  .next (checkedWrite (.bits 4) v .foMcGuard (fun m => m.setGuard v) s)

/-- SET.LP (R228, R212). -/
def execSetLp (v : Byte) (s : State) : Host.Outcome State Fault Refusal :=
  .next (checkedWrite .any v .lowPowerMode (fun m => m.setLp v) s)

/-- SET.MAXON (R235, R212). -/
def execSetMaxon (v : Byte) (s : State) : Host.Outcome State Fault Refusal :=
  .next (checkedWrite .any v .maxOnDuration (fun m => m.setMaxon v) s)

/-- SET.CAL (R233): RCD supplies the byte 0x01. -/
def execSetCal (s : State) : Host.Outcome State Fault Refusal := .next (gatedWrite .calibrate (fun m => m.setCal) s)

/-- SET.RST (R234): it resets the device, not RCD. -/
def execSetRst (s : State) : Host.Outcome State Fault Refusal := .next (gatedWrite .reset (fun m => m.setRst) s)

end Sys2Proof.Machine
end

