-- ==== Sys2Proof/Machine/Dispatch.lean ====
section
/-! DEFINITION. exec: one arm per command, each a direct call of its meaning. -/

namespace Sys2Proof.Machine

def exec (i : Instr) (s : State) : Host.Outcome State Fault Refusal :=
  match i with
  | .dec r b => Sys2Proof.Machine.execDec r b s
  | .enc r => Sys2Proof.Machine.execEnc r s
  | .addr r => Sys2Proof.Machine.execAddr r s
  | .synca => Sys2Proof.Machine.execSynca s
  | .sync1 r => Sys2Proof.Machine.execSync1 r s
  | .wr r b => Sys2Proof.Machine.execWr r b s
  | .setMajor d => Sys2Proof.Machine.execSetMajor d s
  | .setMinor d => Sys2Proof.Machine.execSetMinor d s
  | .setFw d => Sys2Proof.Machine.execSetFw d s
  | .setCalibrating d => Sys2Proof.Machine.execSetCalibrating d s
  | .setOverflow d => Sys2Proof.Machine.execSetOverflow d s
  | .setTouch d => Sys2Proof.Machine.execSetTouch d s
  | .setKeys d => Sys2Proof.Machine.execSetKeys d s
  | .setKeytouch k d => Sys2Proof.Machine.execSetKeytouch k d s
  | .setSignal k d => Sys2Proof.Machine.execSetSignal k d s
  | .setRef k d => Sys2Proof.Machine.execSetRef k d s
  | .setNthr k v => Sys2Proof.Machine.execSetNthr k v s
  | .setAve k v => Sys2Proof.Machine.execSetAve k v s
  | .setAks k v => Sys2Proof.Machine.execSetAks k v s
  | .setDi k v => Sys2Proof.Machine.execSetDi k v s
  | .setFmg v => Sys2Proof.Machine.execSetFmg v s
  | .setFo v => Sys2Proof.Machine.execSetFo v s
  | .setMc v => Sys2Proof.Machine.execSetMc v s
  | .setGuard v => Sys2Proof.Machine.execSetGuard v s
  | .setLp v => Sys2Proof.Machine.execSetLp v s
  | .setMaxon v => Sys2Proof.Machine.execSetMaxon v s
  | .setCal => Sys2Proof.Machine.execSetCal s
  | .setRst => Sys2Proof.Machine.execSetRst s
  | .getMajor => Sys2Proof.Machine.execGetMajor s
  | .getMinor => Sys2Proof.Machine.execGetMinor s
  | .getFw => Sys2Proof.Machine.execGetFw s
  | .getCalibrating => Sys2Proof.Machine.execGetCalibrating s
  | .getOverflow => Sys2Proof.Machine.execGetOverflow s
  | .getTouch => Sys2Proof.Machine.execGetTouch s
  | .getKeys => Sys2Proof.Machine.execGetKeys s
  | .getKeytouch k => Sys2Proof.Machine.execGetKeytouch k s
  | .getSignal k => Sys2Proof.Machine.execGetSignal k s
  | .getRef k => Sys2Proof.Machine.execGetRef k s
  | .getNthr k => Sys2Proof.Machine.execGetNthr k s
  | .getAve k => Sys2Proof.Machine.execGetAve k s
  | .getAks k => Sys2Proof.Machine.execGetAks k s
  | .getDi k => Sys2Proof.Machine.execGetDi k s
  | .getFmg => Sys2Proof.Machine.execGetFmg s
  | .getFo => Sys2Proof.Machine.execGetFo s
  | .getMc => Sys2Proof.Machine.execGetMc s
  | .getGuard => Sys2Proof.Machine.execGetGuard s
  | .getLp => Sys2Proof.Machine.execGetLp s
  | .getMaxon => Sys2Proof.Machine.execGetMaxon s
  | .getCal => Sys2Proof.Machine.execGetCal s
  | .getRst => Sys2Proof.Machine.execGetRst s
  | .lpi => Sys2Proof.Machine.execLpi s
  | .mod => Sys2Proof.Machine.execMod s
  | .wcal => Sys2Proof.Machine.execWcal s

end Sys2Proof.Machine
end

