-- ==== Sys2Proof/Machine/Step.lean ====
section
/-! DEFINITION. One step of RCD: take what runs next and run it (20_memory.md R92, 30_encoding.md R124). -/

namespace Sys2Proof.Machine

/-- One step: a command to its end, one poll of WCAL, or a turn that runs no command (reset, a rejected word, nothing
presented). -/
def step (s : State) : Host.Outcome State Fault Refusal :=
  match fetch s with
  | .runs i s1 => exec i s1
  | .ends s1 => .next s1
  | .noStep => .refused .resetInCommand

/-- The host presents the table's word as the next command, to an RCD that is not polling (log 9). -/
def State.withFetchWord (s : State) (nbits w : Nat) : State := present (tableWord nbits w) s

end Sys2Proof.Machine
end

