-- ==== Sys2Proof/Machine/Pseudo.lean ====
section
/-! DEFINITION. The pseudo-instructions of 30_encoding.md R113: sequences of commands the host issues in order, stopping
at the first response whose status is not OK. They are no commands of RCD and have no words of their own. -/

namespace Sys2Proof.Machine

/-- The 22 fields of the field selector (30_encoding.md R103), in the order of SEL. -/
inductive FieldId where
  | major
  | minor
  | fw
  | calibrating
  | overflow
  | touch
  | keys
  | keytouch (k : Key)
  | signal (k : Key)
  | ref (k : Key)
  | nthr (k : Key)
  | ave (k : Key)
  | aks (k : Key)
  | di (k : Key)
  | fmg
  | fo
  | mc
  | guard
  | lp
  | maxon
  | cal
  | rst
  deriving DecidableEq, Repr

/-- Where part of a field's value stands: its bits `src` and up, `width` of them, are the bits `lo` and up of the byte
of register `reg`. -/
structure Slice where
  reg : Reg
  lo : Nat
  width : Nat
  src : Nat
  deriving DecidableEq, Repr

/-- The place of each field in its register, or in its two registers, MS first (R103's columns "register group" and
"width"; the bits from 10_state.md R42 to R58). -/
def FieldId.slices : FieldId → List Slice
  | .major => [⟨.chipId, 4, 4, 0⟩]
  | .minor => [⟨.chipId, 0, 4, 0⟩]
  | .fw => [⟨.firmwareVersion, 0, 8, 0⟩]
  | .calibrating => [⟨.detectionStatus, 7, 1, 0⟩]
  | .overflow => [⟨.detectionStatus, 6, 1, 0⟩]
  | .touch => [⟨.detectionStatus, 0, 1, 0⟩]
  | .keys => [⟨.keyStatus, 0, 7, 0⟩]
  | .keytouch k => [⟨.keyStatus, k.val, 1, 0⟩]
  | .signal k => [⟨.keySignalMs k, 0, 8, 8⟩, ⟨.keySignalLs k, 0, 8, 0⟩]
  | .ref k => [⟨.referenceDataMs k, 0, 8, 8⟩, ⟨.referenceDataLs k, 0, 8, 0⟩]
  | .nthr k => [⟨.negativeThreshold k, 0, 8, 0⟩]
  | .ave k => [⟨.aveAks k, 2, 6, 0⟩]
  | .aks k => [⟨.aveAks k, 0, 2, 0⟩]
  | .di k => [⟨.detectionIntegrator k, 0, 8, 0⟩]
  | .fmg => [⟨.foMcGuard, 0, 6, 0⟩]
  | .fo => [⟨.foMcGuard, 5, 1, 0⟩]
  | .mc => [⟨.foMcGuard, 4, 1, 0⟩]
  | .guard => [⟨.foMcGuard, 0, 4, 0⟩]
  | .lp => [⟨.lowPowerMode, 0, 8, 0⟩]
  | .maxon => [⟨.maxOnDuration, 0, 8, 0⟩]
  | .cal => [⟨.calibrate, 0, 8, 0⟩]
  | .rst => [⟨.reset, 0, 8, 0⟩]

/-- How many bits the field has (R103's column "width"). -/
def FieldId.width (f : FieldId) : Nat := (f.slices.map Slice.width).sum

/-- The cached getter of a field. -/
def FieldId.get : FieldId → Instr
  | .major => .getMajor
  | .minor => .getMinor
  | .fw => .getFw
  | .calibrating => .getCalibrating
  | .overflow => .getOverflow
  | .touch => .getTouch
  | .keys => .getKeys
  | .keytouch k => .getKeytouch k
  | .signal k => .getSignal k
  | .ref k => .getRef k
  | .nthr k => .getNthr k
  | .ave k => .getAve k
  | .aks k => .getAks k
  | .di k => .getDi k
  | .fmg => .getFmg
  | .fo => .getFo
  | .mc => .getMc
  | .guard => .getGuard
  | .lp => .getLp
  | .maxon => .getMaxon
  | .cal => .getCal
  | .rst => .getRst

/-- The slice's bits of a byte. -/
def Slice.mask (sl : Slice) : Byte := ((1#8 <<< sl.width) - 1#8) <<< sl.lo

/-- "host replaces f's bits in the byte" (R113): the slice's bits of `b` become those of `v`, the others stay. Bits of
`v` above the field's width are not looked at (DESIGN CHOICE log 20). -/
def Slice.put (sl : Slice) (b : Byte) (v : Half) : Byte :=
  (b &&& ~~~sl.mask) ||| (((v >>> sl.src).setWidth 8 <<< sl.lo) &&& sl.mask)

/-- A sequence the host issues: each command may depend on the data of the response before it. -/
abbrev Sequence := List (Half → Instr)

/-- A command that depends on no response. -/
def always (i : Instr) : Half → Instr := fun _ => i

/-- `RD.f`, `RD.SIGNAL`, `RD.REF`: synchronise the field's registers, MS before LS, then its cached getter. -/
def expandRd (f : FieldId) : Sequence := f.slices.map (fun sl => always (.sync1 sl.reg)) ++ [always f.get]

/-- `RDREG g[k]`. -/
def expandRdreg (r : Reg) : Sequence := [always (.sync1 r)]

/-- `CALIBRATE`. -/
def expandCalibrate : Sequence := [always .setCal]

/-- `RESET`. -/
def expandReset : Sequence := [always .setRst]

/-- `CAL.WAIT`. -/
def expandCalWait : Sequence := [always .setCal, always .wcal]

/-- `MUT.f[k], v`: ENC of the field's register, f's bits replaced in the byte it answers, DEC of that byte. For SIGNAL
and REF, which stand in two registers, so for each, MS first (DESIGN CHOICE log 20). -/
def expandMut (f : FieldId) (v : Half) : Sequence :=
  f.slices.flatMap fun sl => [always (.enc sl.reg), fun d => .dec sl.reg (sl.put (d.setWidth 8) v)]

/-- The command just run ended with status OK. -/
def endedOk (s : State) : Bool :=
  match s.response with
  | some r => r.status == .ok
  | none => false

/-- The data of the response on the port. -/
def answered (s : State) : Half :=
  match s.response with
  | some r => r.data
  | none => 0

/-- The host issues a sequence in order and stops at the first command that does not end with status OK (a WCAL that
still polls has not ended, so nothing is issued after it either). -/
def issue : Sequence → State → Host.Outcome State Fault Refusal
  | [], s => .next s
  | c :: rest, s =>
    match exec (c (answered s)) s with
    | .next t => if endedOk t then issue rest t else .next t
    | .fault r => .fault r
    | .refused r => .refused r

end Sys2Proof.Machine
end

