-- ==== Sys2Proof/Safety.lean ====
section
/-! DEFINITION. The terms claims about RCD are stated in: illegal and key-range words read off the tables of
30_encoding.md, legal bus traffic, the invariants of a run, and the shapes of what a command does. -/

namespace Sys2Proof.Safety

open Sys2Proof Sys2Proof.Machine

/-- The five OP values whose SEL is a group number (R101). -/
def IsGroupOp (op : Nat) : Prop := op = 0x01 ∨ op = 0x02 ∨ op = 0x03 ∨ op = 0x11 ∨ op = 0x20

/-- The two OP values whose SEL is a field selector (R101). -/
def IsFieldOp (op : Nat) : Prop := op = 0x21 ∨ op = 0x30

/-- The four OP values with no selector (R101). -/
def IsSoloOp (op : Nat) : Prop := op = 0x10 ∨ op = 0x31 ∨ op = 0x32 ∨ op = 0x40

/-- SEL is within the range its OP allows (R102, R103). -/
def SelInRange (op sel : Nat) : Prop :=
  (IsGroupOp op ∧ sel ≤ 0x0F) ∨ (IsFieldOp op ∧ sel ≤ 0x15) ∨ (IsSoloOp op ∧ sel = 0)

/-- A per-key selector: groups 4 to 10, fields KEYTOUCH to DI (R105). -/
def TakesKey (op sel : Nat) : Prop :=
  (IsGroupOp op ∧ 4 ≤ sel ∧ sel ≤ 10) ∨ (IsFieldOp op ∧ 0x07 ≤ sel ∧ sel ≤ 0x0D)

/-- The largest legal DATA of a SET selector (R107); 255 where DATA is ignored. -/
def setDataMax (sel : Nat) : Nat :=
  if sel = 0x0B ∨ sel = 0x0E then 63
  else if sel = 0x0C then 3
  else if sel = 0x0F ∨ sel = 0x10 then 1
  else if sel = 0x11 then 15
  else if sel = 0x14 ∨ sel = 0x15 then 0
  else 255

/-- DATA is legal: any byte for DEC and WR, the operand's range for SET, else 0 (R106, R107). -/
def DataInRange (op sel data : Nat) : Prop :=
  op = 0x01 ∨ op = 0x20 ∨ (op = 0x21 ∧ data ≤ setDataMax sel) ∨ data = 0

/-- A word is illegal (R109). -/
def IllegalWord (w : Word) : Prop :=
  let op := (opField w).toNat
  let sel := (selField w).toNat
  ¬ SelInRange op sel ∨ (¬ TakesKey op sel ∧ (keyField w).toNat ≠ 0) ∨ ¬ DataInRange op sel (dataField w).toNat

/-- A word that is not illegal but whose key is above 6 (R105, R312). -/
def KeyRangeWord (w : Word) : Prop :=
  ¬ IllegalWord w ∧ TakesKey (opField w).toNat (selField w).toNat ∧ 7 ≤ (keyField w).toNat

/-- The reply recorded with an event has exactly the number of bytes asked for (R76). -/
def ReplyFits (e : BusEvent) : Prop := ∀ bs, e.reply = .ok bs → bs.length = e.rlen

/-- One of the three shapes of transaction RCD issues (R74), inside the address map (R71) and past the gate (R90):
a one-byte read, the 58-byte read at 0x00, or a one-byte write of a writable register, whose reserved bits are 0. -/
def LegalTraffic (e : BusEvent) : Prop :=
  e.dev = Config.deviceAddress ∧ ReplyFits e ∧
  ((e.kind = .writeThenRead ∧ e.rlen = 1 ∧ ∃ a : Byte, e.wbytes = [a] ∧ a.toNat ≤ 0x39) ∨
   (e.kind = .writeThenRead ∧ e.rlen = 58 ∧ e.wbytes = [0x00]) ∨
   (e.kind = .write ∧ e.rlen = 0 ∧
      ∃ a v : Byte, e.wbytes = [a, v] ∧ 0x20 ≤ a.toNat ∧ a.toNat ≤ 0x39 ∧ (a = 0x35 → v.toNat < 0x40)))

/-- Every event of the bus history is legal traffic. -/
def BusOk (s : State) : Prop := ∀ e ∈ s.history, LegalTraffic e

/-- While WCAL polls, no response stands on the port, the mirror's flag reads "calibrating", and the last thing on the
bus was a successful one-byte read of DetectionStatus (R300, R303). -/
def PollingOk (s : State) : Prop :=
  s.polling = true →
    s.response = none ∧ s.mirror.dsCalibrate = true ∧
    ∃ bs, s.history.getLast? =
      some { kind := .writeThenRead, dev := Config.deviceAddress, wbytes := [0x02], rlen := 1, reply := .ok bs }

/-- The command has ended with this status, data and flag, and RCD is idle; `terr` may be anything (R120). -/
def Answered (t : State) (st : Status) (d : Half) (f : Bool) : Prop :=
  t.polling = false ∧ ∃ te, t.response = some { status := st, data := d, flag := f, terr := te }

/-- The command has ended with ERR_TRANSPORT and the transport's own error (R313). -/
def FailedWith (t : State) (e : TErr) : Prop :=
  t.polling = false ∧ t.response = some { status := .errTransport, data := 0, flag := false, terr := e }

/-- The words that wait and the reset inputs to come are untouched. -/
def SameInputs (s t : State) : Prop := t.commands = s.commands ∧ t.resets = s.resets

/-- No bus transaction was issued, and the host's and the device's coming inputs are untouched. -/
def NoTraffic (s t : State) : Prop :=
  t.history = s.history ∧ t.replies = s.replies ∧ t.repliesAfter = s.repliesAfter ∧ SameInputs s t

/-- Exactly one bus transaction was issued, `e`; one reply is used up, and the host's inputs are untouched. -/
def OneTransaction (s t : State) (e : BusEvent) : Prop :=
  t.history = s.history ++ [e] ∧ t.replies = s.replies.tail ∧ t.repliesAfter = s.repliesAfter ∧ SameInputs s t

/-- What a write that passes the gate does: the mirror becomes `m` whatever the reply, `v` is written to address `a`,
and the response is OK with the byte sent, or the transport's error. -/
def WroteThrough (s t : State) (m : Mirror) (a v : Byte) : Prop :=
  t.mirror = m ∧ OneTransaction s t (writeEvent a v s.nextReply) ∧
  (∀ bs, s.nextReply = .ok bs → Answered t .ok (v.setWidth 16) false) ∧
  (∀ e, s.nextReply = .err e → FailedWith t e)

/-- What a dropped write does: nothing but the response OK, data 0, flag 1 (42_write.md R210). -/
def Dropped (s t : State) : Prop := t.mirror = s.mirror ∧ NoTraffic s t ∧ Answered t .ok 0 true

/-- A command that only answers: the mirror and the bus are untouched. -/
def OnlyAnswered (s t : State) (d : Half) (f : Bool) : Prop :=
  t.mirror = s.mirror ∧ NoTraffic s t ∧ Answered t .ok d f

/-- The command ended with an error status before its rule started: nothing is changed (60_exceptions.md R316). -/
def Rejected (s t : State) (st : Status) : Prop :=
  t.mirror = s.mirror ∧ t.history = s.history ∧ t.replies = s.replies ∧ t.repliesAfter = s.repliesAfter ∧
  Answered t st 0 false

/-- The register a write command writes when its operand is legal and the gate lets it through (R83, R103). -/
def writtenReg : Instr → Option Reg
  | .wr r _ => if writable r then some r else none
  | .setNthr k _ => some (.negativeThreshold k)
  | .setAve k _ => some (.aveAks k)
  | .setAks k _ => some (.aveAks k)
  | .setDi k _ => some (.detectionIntegrator k)
  | .setFmg _ => some .foMcGuard
  | .setFo _ => some .foMcGuard
  | .setMc _ => some .foMcGuard
  | .setGuard _ => some .foMcGuard
  | .setLp _ => some .lowPowerMode
  | .setMaxon _ => some .maxOnDuration
  | .setCal => some .calibrate
  | .setRst => some .reset
  | .dec _ _ | .enc _ | .addr _ | .synca | .sync1 _ | .setMajor _ | .setMinor _ | .setFw _
  | .setCalibrating _ | .setOverflow _ | .setTouch _ | .setKeys _ | .setKeytouch _ _ | .setSignal _ _
  | .setRef _ _ | .getMajor | .getMinor | .getFw | .getCalibrating | .getOverflow | .getTouch | .getKeys
  | .getKeytouch _ | .getSignal _ | .getRef _ | .getNthr _ | .getAve _ | .getAks _ | .getDi _ | .getFmg
  | .getFo | .getMc | .getGuard | .getLp | .getMaxon | .getCal | .getRst | .lpi | .mod | .wcal => none

/-- The read a command issues, if it is a read (R83): for WCAL, the read of one poll. -/
def readOf (i : Instr) (r : DeviceReply) : List BusEvent :=
  if i = .synca then [readEvent 0x00 58 r]
  else if i = .wcal then [readEvent 0x02 1 r]
  else match i with
    | .sync1 g => [readEvent (addressOf g) 1 r]
    | _ => []

/-- All the transactions of one command from `s` to `t` (R83): its read, or the write of the one register written, with
the byte the mirror then gives, or none. -/
def trafficOf (i : Instr) (s t : State) : List BusEvent :=
  match writtenReg i with
  | some r => [writeEvent (addressOf r) (t.mirror.encode r) s.nextReply]
  | none => readOf i s.nextReply

/-- RCD is idle, `w` stands at the command port with `rest` behind it, and the reset input is off. -/
def Presents (s : State) (w : Word) (rest : List Word) : Prop :=
  s.polling = false ∧ s.commands = w :: rest ∧ s.resetNow = .off

/-- In the coming steps the host does not apply reset. -/
def NoReset (resets : List ResetInput) : Prop := ∀ x ∈ resets, x = .off

/-- The reset input is not applied while a command other than WCAL executes, nor while a word is rejected (R341). -/
def ResetAllowed (s : State) : Prop :=
  s.resetNow = .inside → s.polling = true ∨ s.commands = [] ∨ ∃ w rest, s.commands = w :: rest ∧ decode w = .ok .wcal

/-- A reply whose first byte reads "calibrating", bit 7 set (44_system.md R301). -/
def ReadsCalibrating (r : DeviceReply) : Prop := ∃ bs : Vector Byte 58, r = .ok bs ∧ bs[0].getLsbD 7 = true

end Sys2Proof.Safety
end

