-- ==== Sys2Proof/Certificates/Slice0/Obligations.lean ====
section
/-! DEFINITION. What is claimed of RCD: one proposition per obligation, in the terms of Sys2Proof/Safety.lean. -/

open Sys2Proof Sys2Proof.Machine Sys2Proof.Safety

/-- The example words of the syntax section decode to the commands they are written for. Basis: 30_encoding.md
R112 (the example words); 95_test_vectors.md V21, V22. The choice: that the last two words are rejected, and
under these names, is log entries 13 and 17 (the spec's own decisions D4, D5, D15). -/
def Obligations.SpecExampleWordsDecode : Prop :=
  decode 0x10000000 = .ok .synca ∧
  decode 0x11020000 = .ok (.sync1 .detectionStatus) ∧
  decode 0x11040300 = .ok (.sync1 (.keySignalMs 3)) ∧
  decode 0x2008031E = .ok (.wr (.negativeThreshold 3) 0x1E) ∧
  decode 0x01090083 = .ok (.dec (.aveAks 0) 0x83) ∧
  decode 0x020B0000 = .ok (.enc .foMcGuard) ∧
  decode 0x03070600 = .ok (.addr (.referenceDataLs 6)) ∧
  decode 0x210B0210 = .ok (.setAve 2 16) ∧
  decode 0x21140000 = .ok .setCal ∧
  decode 0x30080400 = .ok (.getSignal 4) ∧
  decode 0x31000000 = .ok .lpi ∧
  decode 0x32000000 = .ok .mod ∧
  decode 0x40000000 = .ok .wcal ∧
  decode 0x210B0240 = .error .badData ∧
  decode 0x20040900 = .error .keyRange

/-- Decoding the word of any well-formed command gives the command back. Basis: 30_encoding.md R100, R101, R102,
R103; 30_encoding.md R105 to R108. -/
def Obligations.DecodeInvertsEncode : Prop :=
  ∀ i : Instr, i.wf = true → decode (encode i) = .ok i

/-- Each word has at most one meaning: a word that decodes is the word of what it decodes to. Basis:
30_encoding.md R108, R109, R110, R111. -/
def Obligations.EncodeInvertsDecode : Prop :=
  ∀ (w : Word) (i : Instr), decode w = .ok i → i.wf = true ∧ encode i = w

/-- A word is illegal exactly as R109 lists, and ends with ERR_ILLEGAL and no effect. Basis: 30_encoding.md R109
(decision D4); 60_exceptions.md R311 (decision D4). The choice: that such a word is refused is the spec's own
decision D4. -/
def Obligations.IllegalWordsEndWithErrIllegal : Prop :=
  (∀ w : Word, IllegalWord w ↔ ∃ e, decode w = .error e ∧ rejectionCause e = .illegal) ∧
  (∀ (s : State) (w : Word) (rest : List Word), Presents s w rest → IllegalWord w →
    ∃ t, step s = .next t ∧ Rejected s t .errIllegal ∧ t.commands = rest) ∧
  IllegalWord 0x00000000 ∧ IllegalWord 0xFFFFFFFF

/-- A key index above 6 on a per-key selector ends with ERR_KEY and no effect. Basis: 60_exceptions.md R312
(decision D5). The choice: that such a key is refused is the spec's own decision D5. -/
def Obligations.KeyAboveSixEndsWithErrKey : Prop :=
  (∀ w : Word, KeyRangeWord w ↔ decode w = .error .keyRange) ∧
  (∀ w : Word, TakesKey (opField w).toNat (selField w).toNat → 7 ≤ (keyField w).toNat → ∀ i, decode w ≠ .ok i) ∧
  (∀ (s : State) (w : Word) (rest : List Word), Presents s w rest → KeyRangeWord w →
    ∃ t, step s = .next t ∧ Rejected s t .errKey ∧ t.commands = rest)

/-- A step of an idle RCD runs the command the presented word decodes to. Basis: 30_encoding.md R108, R120,
R124; 92_eei_decisions.md D1; log entries 8 and 9. The choice: the queue of words and the response standing for
one step are log entries 9 and 8. -/
def Obligations.StepRunsDecodedCommand : Prop :=
  ∀ (s : State) (w : Word) (rest : List Word) (i : Instr), Presents s w rest → decode w = .ok i →
    step s = exec i { s with commands := rest, resets := s.resets.tail, response := none }

/-- While WCAL polls no command word is taken: the step is the next poll. Basis: 30_encoding.md R124;
44_system.md R303; 70_reset_and_hazards.md R359; log entries 9 and 10. The choice: that presented words wait at
the port is log entry 9, and one poll a step with a phase bit is log entry 10, both the model's choice. -/
def Obligations.StepWhilePollingPollsAgain : Prop :=
  ∀ s : State, s.polling = true → s.resetNow = .off →
    step s = exec .wcal { s with resets := s.resets.tail, response := none }

/-- The reset input sets the mirror to its reset values, ends a polling WCAL, and does nothing else. Basis:
70_reset_and_hazards.md R340, R341, R342; log entries 1 and 2 (the open reset values); log entries 9 and 11. The
choice: that the reset input is sampled once a step, beside the words that wait, is log entry 9; when it may be
applied is the spec's own decision D25, log entry 11. -/
def Obligations.ResetInputRestoresTheMirrorOnly : Prop :=
  ∀ s : State,
    s.resetNow = .between ∨ (s.resetNow = .inside ∧ s.polling = false ∧ s.commands = []) →
    step s = .next
      { s with
        mirror := Mirror.resetWith Config.resetParams, polling := false, response := none, resets := s.resets.tail }

/-- Reset applied inside a poll of WCAL lets the poll have its reply, then ends WCAL without a response. Basis:
70_reset_and_hazards.md R341, R340, R359; 44_system.md R302; log entries 1, 2, 9, 10 and 11. The choice: when
reset may be applied is the spec's own decision D25, log entry 11; one poll a step is log entry 10. -/
def Obligations.ResetInAPollEndsWcalWithoutAResponse : Prop :=
  ∀ s : State, s.resetNow = .inside →
    (s.polling = true → ∃ t, step s = .next t ∧
      t.history = s.history ++ [readEvent 0x02 1 s.nextReply] ∧ t.replies = s.replies.tail ∧
      t.mirror = Mirror.resetWith Config.resetParams ∧ t.polling = false ∧ t.response = none ∧
      t.commands = s.commands) ∧
    (∀ w rest, s.polling = false → s.commands = w :: rest → decode w = .ok .wcal → ∃ t, step s = .next t ∧
      t.history = s.history ++ [readEvent 0x02 1 s.nextReply] ∧ t.replies = s.replies.tail ∧
      t.mirror = Mirror.resetWith Config.resetParams ∧ t.polling = false ∧ t.response = none ∧
      t.commands = rest)

/-- With nothing presented an idle RCD keeps everything but the response port, which is emptied. Basis:
30_encoding.md R124; 60_exceptions.md R317 (no autonomous step, D24); log entries 8 and 9. The choice: that a
response stands on the port for one step is log entry 8, that inputs come once a step log entry 9, both the
model's choice. -/
def Obligations.IdleStepOnlyClearsTheResponse : Prop :=
  ∀ s : State, s.polling = false → s.commands = [] → s.resetNow = .off →
    step s = .next { s with response := none, resets := s.resets.tail }

/-- Every step answers a next state, but one with reset applied inside a command other than WCAL, which has
none. Basis: 60_exceptions.md R310, R315, R320; 70_reset_and_hazards.md R341 (decision D25, log entry 11);
44_system.md R302, R303. The choice: no step for a reset in mid-command is the spec's own decision D25, log
entry 11; that a word being rejected counts as one is the model's choice, log entry 11; that exec of WCAL, which
may never end (R302), answers a next state holds because one exec is one poll, the small-step reading of R303
and the model's choice, log entry 10. -/
def Obligations.OnlyAResetInMidCommandStopsAStep : Prop :=
  (∀ s : State, ResetAllowed s → ∃ t, step s = .next t) ∧
  (∀ s : State, ¬ ResetAllowed s → step s = .refused .resetInCommand) ∧
  (∀ (i : Instr) (s : State), ∃ t, exec i s = .next t)

/-- The seven reset values the source gives, for every choice of the open parameters. Basis: R60. -/
def Obligations.ResetValuesTheSourceGives : Prop :=
  (∀ p : ResetParams,
    (Mirror.resetWith p).majorId = 0x2 ∧ (Mirror.resetWith p).minorId = 0xE ∧
    (Mirror.resetWith p).firmwareVersion = 0x15 ∧ (Mirror.resetWith p).lowPowerMode = 2 ∧
    (Mirror.resetWith p).maxOnDuration = 180 ∧
    ∀ k : Key, (Mirror.resetWith p).negativeThreshold[k] = 0x14 ∧
      (Mirror.resetWith p).detectionIntegrator[k] = 0x04) ∧
  (∃ p, State.reset.mirror = Mirror.resetWith p) ∧
  (∀ s : State, ∃ p, (applyReset s).mirror = Mirror.resetWith p)

/-- The whole state at power-on: the reset byte image, idle, empty history, nothing pending. Basis: 10_state.md
R62; 70_reset_and_hazards.md R342; log entries 1 and 2 (the open reset values). The choice: the open reset
values are log entries 1 and 2; the other fields at power-on are log entries 7, 8 and 10. -/
def Obligations.PowerOnState : Prop :=
  (List.finRange 58).map State.reset.mirror.image =
    [0x2E, 0x15, 0x00, 0x00] ++ List.replicate 28 0x00 ++ List.replicate 7 0x14 ++ List.replicate 7 0x21 ++
    List.replicate 7 0x04 ++ [0x00, 0x02, 0xB4, 0x00, 0x00] ∧
  State.reset.polling = false ∧ State.reset.history = [] ∧ State.reset.response = none

/-- Round-trip law: encode after decode is the byte under the mask, decode of encode changes nothing. Basis:
R174. -/
def Obligations.RoundTripLaw : Prop :=
  (∀ (m : Mirror) (r : Reg) (v : Byte), (m.decode r v).encode r = v &&& definedBits r) ∧
  (∀ (m : Mirror) (r : Reg), m.decode r (m.encode r) = m) ∧
  definedBits .detectionStatus = 0xC1 ∧ definedBits .keyStatus = 0x7F ∧ definedBits .foMcGuard = 0x3F ∧
  (∀ r : Reg, r ≠ .detectionStatus → r ≠ .keyStatus → r ≠ .foMcGuard → definedBits r = 0xFF)

/-- Frame law: decoding one register leaves the byte of every other register. Basis: 40_codec.md R175 (derived
there from R131 to R146). -/
def Obligations.DecodeFrameLaw : Prop :=
  (∀ (m : Mirror) (r r' : Reg) (v : Byte), r' ≠ r → (m.decode r v).encode r' = m.encode r') ∧
  (∀ (m : Mirror) (k : Key) (v : Byte),
    (m.setAve k v).aks[k] = m.aks[k] ∧ (m.setAks k v).ave[k] = m.ave[k] ∧
    ((m.setFo v).maxCal = m.maxCal ∧ (m.setFo v).guardChannel = m.guardChannel) ∧
    ((m.setMc v).fastOut = m.fastOut ∧ (m.setMc v).guardChannel = m.guardChannel) ∧
    ((m.setGuard v).fastOut = m.fastOut ∧ (m.setGuard v).maxCal = m.maxCal)) ∧
  (∀ (m : Mirror) (v : Byte) (k : Key), (m.decode .keyStatus v).keyTouchAt k = v.getLsbD k)

/-- Two mirrors with the same 58 bytes are the same mirror. Basis: 10_state.md R64; 40_codec.md R172. -/
def Obligations.ImageDeterminesTheMirror : Prop :=
  ∀ m m' : Mirror, (∀ r : Reg, m.encode r = m'.encode r) → m = m'

/-- addressOf: the base and stride of every group, total, injective, at most 0x39. Basis: 40_codec.md R170 (key
order: decision D6). The choice: the ascending key order is the spec's own decision D6, log entry 12. -/
def Obligations.AddressOfTable : Prop :=
  (addressOf .chipId = 0x00 ∧ addressOf .firmwareVersion = 0x01 ∧ addressOf .detectionStatus = 0x02 ∧
    addressOf .keyStatus = 0x03 ∧ addressOf .foMcGuard = 0x35 ∧ addressOf .lowPowerMode = 0x36 ∧
    addressOf .maxOnDuration = 0x37 ∧ addressOf .calibrate = 0x38 ∧ addressOf .reset = 0x39) ∧
  (∀ k : Key,
    (addressOf (.keySignalMs k)).toNat = 0x04 + 2 * k.val ∧ (addressOf (.keySignalLs k)).toNat = 0x05 + 2 * k.val ∧
    (addressOf (.referenceDataMs k)).toNat = 0x12 + 2 * k.val ∧
    (addressOf (.referenceDataLs k)).toNat = 0x13 + 2 * k.val ∧
    (addressOf (.negativeThreshold k)).toNat = 0x20 + k.val ∧ (addressOf (.aveAks k)).toNat = 0x27 + k.val ∧
    (addressOf (.detectionIntegrator k)).toNat = 0x2E + k.val) ∧
  (∀ r r' : Reg, addressOf r = addressOf r' → r = r') ∧
  (∀ r : Reg, (addressOf r).toNat ≤ 0x39)

/-- regOf and addressOf are inverse over the 58 registers and the 58 addresses. Basis: 40_codec.md R171 (derived
there from R170). The choice: the ascending key order is the spec's own decision D6, log entry 12. -/
def Obligations.RegOfInvertsAddressOf : Prop :=
  (∀ (r : Reg) (a : Fin 58), (addressOf r).toNat = a.val → regOf a = r) ∧
  (∀ a : Fin 58, (addressOf (regOf a)).toNat = a.val) ∧
  (regOf 0x00 = .chipId ∧ regOf 0x01 = .firmwareVersion ∧ regOf 0x02 = .detectionStatus ∧ regOf 0x03 = .keyStatus) ∧
  (∀ a : Fin 58, 0x04 ≤ a.val → a.val ≤ 0x11 →
    (a.val % 2 = 0 → ∃ k : Key, regOf a = .keySignalMs k ∧ k.val = (a.val - 0x04) / 2) ∧
    (a.val % 2 = 1 → ∃ k : Key, regOf a = .keySignalLs k ∧ k.val = (a.val - 0x05) / 2)) ∧
  (∀ a : Fin 58, 0x12 ≤ a.val → a.val ≤ 0x1F →
    (a.val % 2 = 0 → ∃ k : Key, regOf a = .referenceDataMs k ∧ k.val = (a.val - 0x12) / 2) ∧
    (a.val % 2 = 1 → ∃ k : Key, regOf a = .referenceDataLs k ∧ k.val = (a.val - 0x13) / 2)) ∧
  (∀ k : Key,
    (∀ a : Fin 58, a.val = 0x20 + k.val → regOf a = .negativeThreshold k) ∧
    (∀ a : Fin 58, a.val = 0x27 + k.val → regOf a = .aveAks k) ∧
    (∀ a : Fin 58, a.val = 0x2E + k.val → regOf a = .detectionIntegrator k)) ∧
  (regOf 0x35 = .foMcGuard ∧ regOf 0x36 = .lowPowerMode ∧ regOf 0x37 = .maxOnDuration ∧
    regOf 0x38 = .calibrate ∧ regOf 0x39 = .reset)

/-- The gate: exactly the groups 8 to 15, the addresses 0x20 to 0x39, are writable. Basis: 20_memory.md R90 (the
table; its last two sentences are other statements). The choice: the address of key k is the spec's own decision
D6, log entry 12. -/
def Obligations.GateTable : Prop :=
  ∀ r : Reg, (writable r = true ↔ 8 ≤ r.sel.toNat) ∧ (writable r = true ↔ 0x20 ≤ (addressOf r).toNat)

/-- decode of the packed registers, sub-field by sub-field, in numbers. Basis: R131; R133; R134; R140; R142. -/
def Obligations.DecodeOfPackedRegisters : Prop :=
  ∀ (m : Mirror) (b : Byte) (k : Key),
    ((m.decode .chipId b).majorId.toNat = b.toNat / 16 ∧ (m.decode .chipId b).minorId.toNat = b.toNat % 16) ∧
    ((m.decode .detectionStatus b).dsCalibrate = decide (128 ≤ b.toNat) ∧
      (m.decode .detectionStatus b).dsOverflow = decide (b.toNat / 64 % 2 = 1) ∧
      (m.decode .detectionStatus b).dsTouch = decide (b.toNat % 2 = 1)) ∧
    ((m.decode .keyStatus b).keyTouchAt k = decide (b.toNat / 2 ^ k.val % 2 = 1)) ∧
    ((m.decode (.aveAks k) b).ave[k].toNat = b.toNat / 4 ∧ (m.decode (.aveAks k) b).aks[k].toNat = b.toNat % 4 ∧
      ∀ j : Key, j ≠ k →
        (m.decode (.aveAks k) b).ave[j] = m.ave[j] ∧ (m.decode (.aveAks k) b).aks[j] = m.aks[j]) ∧
    ((m.decode .foMcGuard b).fastOut = decide (b.toNat / 32 % 2 = 1) ∧
      (m.decode .foMcGuard b).maxCal = decide (b.toNat / 16 % 2 = 1) ∧
      (m.decode .foMcGuard b).guardChannel.toNat = b.toNat % 16)

/-- decode of an MS or LS register replaces one half of the 16-bit composite and keeps the other. Basis: R135;
R136; R137; R138. -/
def Obligations.DecodeOfCompositeHalves : Prop :=
  ∀ (m : Mirror) (b : Byte) (k : Key),
    (m.decode (.keySignalMs k) b).keySignal[k].toNat = 256 * b.toNat + m.keySignal[k].toNat % 256 ∧
    (m.decode (.keySignalLs k) b).keySignal[k].toNat = 256 * (m.keySignal[k].toNat / 256) + b.toNat ∧
    (m.decode (.referenceDataMs k) b).referenceData[k].toNat = 256 * b.toNat + m.referenceData[k].toNat % 256 ∧
    (m.decode (.referenceDataLs k) b).referenceData[k].toNat = 256 * (m.referenceData[k].toNat / 256) + b.toNat ∧
    ∀ j : Key, j ≠ k →
      (m.decode (.keySignalMs k) b).keySignal[j] = m.keySignal[j] ∧
      (m.decode (.keySignalLs k) b).keySignal[j] = m.keySignal[j] ∧
      (m.decode (.referenceDataMs k) b).referenceData[j] = m.referenceData[j] ∧
      (m.decode (.referenceDataLs k) b).referenceData[j] = m.referenceData[j]

/-- encode of the packed registers and of the composite halves, in numbers. Basis: R151; R153; R154; R155; R156;
R157; R158; R160; R162. -/
def Obligations.EncodeOfPackedRegisters : Prop :=
  ∀ (m : Mirror) (k : Key),
    (m.encode .chipId).toNat = 16 * m.majorId.toNat + m.minorId.toNat ∧
    (m.encode .detectionStatus).toNat =
      128 * m.dsCalibrate.toNat + 64 * m.dsOverflow.toNat + m.dsTouch.toNat ∧
    ((m.encode .keyStatus).getLsbD k = m.keyTouchAt k ∧ (m.encode .keyStatus).getLsbD 7 = false) ∧
    (m.encode (.keySignalMs k)).toNat = m.keySignal[k].toNat / 256 ∧
    (m.encode (.keySignalLs k)).toNat = m.keySignal[k].toNat % 256 ∧
    (m.encode (.referenceDataMs k)).toNat = m.referenceData[k].toNat / 256 ∧
    (m.encode (.referenceDataLs k)).toNat = m.referenceData[k].toNat % 256 ∧
    (m.encode (.aveAks k)).toNat = 4 * m.ave[k].toNat + m.aks[k].toNat ∧
    (m.encode .foMcGuard).toNat = 32 * m.fastOut.toNat + 16 * m.maxCal.toNat + m.guardChannel.toNat

/-- decode of the seven unpacked registers stores the byte as it is, and changes no other field. Basis: R132;
R139; R141; R143; R144; R145; R146. -/
def Obligations.PlainRegistersDecodeToTheirByte : Prop :=
  ∀ (m : Mirror) (b : Byte) (k : Key),
    m.decode .firmwareVersion b = { m with firmwareVersion := b } ∧
    m.decode (.negativeThreshold k) b = { m with negativeThreshold := m.negativeThreshold.set k b } ∧
    m.decode (.detectionIntegrator k) b = { m with detectionIntegrator := m.detectionIntegrator.set k b } ∧
    m.decode .lowPowerMode b = { m with lowPowerMode := b } ∧
    m.decode .maxOnDuration b = { m with maxOnDuration := b } ∧
    m.decode .calibrate b = { m with calibrate := b } ∧
    m.decode .reset b = { m with reset := b }

/-- encode of the seven unpacked registers is their field as it stands. Basis: R152; R159; R161; R163; R164;
R165; R166. -/
def Obligations.PlainRegistersEncodeTheirByte : Prop :=
  ∀ (m : Mirror) (k : Key),
    m.encode .firmwareVersion = m.firmwareVersion ∧
    m.encode (.negativeThreshold k) = m.negativeThreshold[k] ∧
    m.encode (.detectionIntegrator k) = m.detectionIntegrator[k] ∧
    m.encode .lowPowerMode = m.lowPowerMode ∧
    m.encode .maxOnDuration = m.maxOnDuration ∧
    m.encode .calibrate = m.calibrate ∧
    m.encode .reset = m.reset

/-- DEC decodes its byte into the mirror, on every register, with no bus traffic. Basis: 40_codec.md R147, R130;
30_encoding.md R122. -/
def Obligations.DecResult : Prop :=
  ∀ (r : Reg) (b : Byte) (s : State), ∃ t, exec (.dec r b) s = .next t ∧
    t.mirror.encode r = b &&& definedBits r ∧
    (∀ r' : Reg, r' ≠ r → t.mirror.encode r' = s.mirror.encode r') ∧
    NoTraffic s t ∧ Answered t .ok ((b &&& definedBits r).setWidth 16) false

/-- ENC answers the register byte of the mirror and ADDR its address; neither changes anything. Basis:
40_codec.md R167, R173. The choice: the address of key k is the spec's own decision D6, log entry 12. -/
def Obligations.EncAndAddrResult : Prop :=
  ∀ (r : Reg) (s : State),
    (∃ t, exec (.enc r) s = .next t ∧ OnlyAnswered s t ((s.mirror.encode r).setWidth 16) false) ∧
    (∃ t, exec (.addr r) s = .next t ∧ OnlyAnswered s t ((addressOf r).setWidth 16) false)

/-- SYNCA: one 58-byte read, all of the mirror decoded or, on failure, none of it. Basis: 41_sync.md R190;
20_memory.md R74, R80. The choice: which key a byte of the buffer belongs to is the spec's own decision D6, log
entry 12. -/
def Obligations.SyncaResult : Prop :=
  ∀ s : State, ∃ t, exec .synca s = .next t ∧
    OneTransaction s t (readEvent 0x00 58 s.nextReply) ∧
    (∀ buf, s.nextReply = .ok buf →
      (∀ a : Fin 58, t.mirror.image a = buf[a] &&& definedBits (regOf a)) ∧ Answered t .ok 0 false) ∧
    (∀ e, s.nextReply = .err e → t.mirror = s.mirror ∧ FailedWith t e)

/-- After a successful SYNCA nothing of the old mirror survives. Basis: 41_sync.md R190. -/
def Obligations.SyncaForgetsTheOldMirror : Prop :=
  ∀ (s s' t t' : State) (buf : Vector Byte 58), s.nextReply = .ok buf → s'.nextReply = .ok buf →
    exec .synca s = .next t → exec .synca s' = .next t' → t.mirror = t'.mirror

/-- After SYNCA a 16-bit composite is its MS byte at the lower address and its LS byte at the next. Basis:
20_memory.md R72; 41_sync.md R190. The choice: the ascending key order is the spec's own decision D6, log entry
12. -/
def Obligations.SyncaAssemblesCompositesBigEndian : Prop :=
  ∀ (s t : State) (buf : Vector Byte 58), s.nextReply = .ok buf → exec .synca s = .next t →
    ∀ (k : Key) (i j : Fin 58), j.val = i.val + 1 →
      (i.val = 0x04 + 2 * k.val → t.mirror.keySignal[k] = buf[i] ++ buf[j]) ∧
      (i.val = 0x12 + 2 * k.val → t.mirror.referenceData[k] = buf[i] ++ buf[j])

/-- SYNC1: one single-byte read, that register alone decoded or, on failure, nothing. Basis: 41_sync.md R191,
R192. The choice: the address of key k is the spec's own decision D6, log entry 12. -/
def Obligations.Sync1Result : Prop :=
  ∀ (r : Reg) (s : State), ∃ t, exec (.sync1 r) s = .next t ∧
    OneTransaction s t (readEvent (addressOf r) 1 s.nextReply) ∧
    (∀ buf, s.nextReply = .ok buf →
      t.mirror.encode r = buf[0] &&& definedBits r ∧
      (∀ r' : Reg, r' ≠ r → t.mirror.encode r' = s.mirror.encode r') ∧
      Answered t .ok ((buf[0] &&& definedBits r).setWidth 16) false) ∧
    (∀ e, s.nextReply = .err e → t.mirror = s.mirror ∧ FailedWith t e)

/-- WR: through the gate one write of the masked byte, otherwise dropped. Basis: 42_write.md R210, R211, R236.
The choice: the masked byte sent and the mirror after a failed write are the spec's own decisions D12 and D13,
log entry 17; the address of key k is its decision D6, log entry 12. -/
def Obligations.WrResult : Prop :=
  ∀ (r : Reg) (b : Byte) (s : State), ∃ t, exec (.wr r b) s = .next t ∧
    (writable r = true → WroteThrough s t (s.mirror.decode r b) (addressOf r) (b &&& definedBits r)) ∧
    (writable r = false → Dropped s t)

/-- The ten typed setters of read-only fields are dropped by the gate whatever their operand. Basis: 42_write.md
R213 to R223; 90_conflicts.md C2. -/
def Obligations.ReadOnlySettersAreDropped : Prop :=
  ∀ (k : Key) (d : Byte) (s : State),
    (∃ t, exec (.setMajor d) s = .next t ∧ Dropped s t) ∧ (∃ t, exec (.setMinor d) s = .next t ∧ Dropped s t) ∧
    (∃ t, exec (.setFw d) s = .next t ∧ Dropped s t) ∧ (∃ t, exec (.setCalibrating d) s = .next t ∧ Dropped s t) ∧
    (∃ t, exec (.setOverflow d) s = .next t ∧ Dropped s t) ∧ (∃ t, exec (.setTouch d) s = .next t ∧ Dropped s t) ∧
    (∃ t, exec (.setKeys d) s = .next t ∧ Dropped s t) ∧ (∃ t, exec (.setKeytouch k d) s = .next t ∧ Dropped s t) ∧
    (∃ t, exec (.setSignal k d) s = .next t ∧ Dropped s t) ∧ (∃ t, exec (.setRef k d) s = .next t ∧ Dropped s t)

/-- SET.NTHR, SET.DI, SET.LP and SET.MAXON store the byte and write it through. Basis: 42_write.md R212, R224,
R225, R228, R235, R236. The choice: the mirror after a failed write is the spec's own decision D13, log entry
17; the address of key k is the spec's own decision D6, log entry 12. -/
def Obligations.ByteSetterResults : Prop :=
  ∀ (k : Key) (v : Byte) (s : State),
    (∃ t, exec (.setNthr k v) s = .next t ∧
      WroteThrough s t { s.mirror with negativeThreshold := s.mirror.negativeThreshold.set k v }
        (BitVec.ofNat 8 (0x20 + k.val)) v) ∧
    (∃ t, exec (.setDi k v) s = .next t ∧
      WroteThrough s t { s.mirror with detectionIntegrator := s.mirror.detectionIntegrator.set k v }
        (BitVec.ofNat 8 (0x2E + k.val)) v) ∧
    (∃ t, exec (.setLp v) s = .next t ∧ WroteThrough s t { s.mirror with lowPowerMode := v } 0x36 v) ∧
    (∃ t, exec (.setMaxon v) s = .next t ∧ WroteThrough s t { s.mirror with maxOnDuration := v } 0x37 v)

/-- SET.AVE and SET.AKS write the packed byte with the sibling taken from the mirror. Basis: 42_write.md R212,
R226, R227, R236; 20_memory.md R94. The choice: the mirror after a failed write is the spec's own decision D13,
log entry 17; the address of key k is the spec's own decision D6, log entry 12. -/
def Obligations.AveAndAksSetterResults : Prop :=
  ∀ (k : Key) (v : Byte) (s : State),
    (v.toNat < 64 → ∃ t, exec (.setAve k v) s = .next t ∧
      WroteThrough s t { s.mirror with ave := s.mirror.ave.set k (BitVec.ofNat 6 v.toNat) }
        (BitVec.ofNat 8 (0x27 + k.val)) (BitVec.ofNat 8 (4 * v.toNat + s.mirror.aks[k].toNat))) ∧
    (v.toNat < 4 → ∃ t, exec (.setAks k v) s = .next t ∧
      WroteThrough s t { s.mirror with aks := s.mirror.aks.set k (BitVec.ofNat 2 v.toNat) }
        (BitVec.ofNat 8 (0x27 + k.val)) (BitVec.ofNat 8 (4 * s.mirror.ave[k].toNat + v.toNat)))

/-- SET.FMG, SET.FO, SET.MC and SET.GUARD write the packed byte at 0x35, siblings from the mirror. Basis:
42_write.md R212, R229, R230, R231, R232, R236. The choice: the mirror after a failed write is the spec's own
decision D13, log entry 17. -/
def Obligations.FoMcGuardSetterResults : Prop :=
  ∀ (v : Byte) (s : State),
    (v.toNat < 64 → ∃ t, exec (.setFmg v) s = .next t ∧
      WroteThrough s t
        { s.mirror with
          fastOut := decide (v.toNat / 32 % 2 = 1), maxCal := decide (v.toNat / 16 % 2 = 1),
          guardChannel := BitVec.ofNat 4 v.toNat } 0x35 v) ∧
    (v.toNat < 2 → ∃ t, exec (.setFo v) s = .next t ∧
      WroteThrough s t { s.mirror with fastOut := decide (v.toNat = 1) } 0x35
        (BitVec.ofNat 8 (32 * v.toNat + 16 * s.mirror.maxCal.toNat + s.mirror.guardChannel.toNat))) ∧
    (v.toNat < 2 → ∃ t, exec (.setMc v) s = .next t ∧
      WroteThrough s t { s.mirror with maxCal := decide (v.toNat = 1) } 0x35
        (BitVec.ofNat 8 (32 * s.mirror.fastOut.toNat + 16 * v.toNat + s.mirror.guardChannel.toNat))) ∧
    (v.toNat < 16 → ∃ t, exec (.setGuard v) s = .next t ∧
      WroteThrough s t { s.mirror with guardChannel := BitVec.ofNat 4 v.toNat } 0x35
        (BitVec.ofNat 8 (32 * s.mirror.fastOut.toNat + 16 * s.mirror.maxCal.toNat + v.toNat)))

/-- SET.CAL and SET.RST store and write 0x01 and touch no other field. Basis: 42_write.md R212, R233, R234,
R236; 92_eei_decisions.md D18. The choice: that no other field changes is the spec's own decision D18, and that
the mirror keeps 0x01 when the write fails its decision D13, both log entry 17. -/
def Obligations.StartCalibrationAndResetResults : Prop :=
  ∀ s : State,
    (∃ t, exec .setCal s = .next t ∧ WroteThrough s t { s.mirror with calibrate := 0x01 } 0x38 0x01) ∧
    (∃ t, exec .setRst s = .next t ∧ WroteThrough s t { s.mirror with reset := 0x01 } 0x39 0x01)

/-- Setting one sub-field of a packed byte leaves the others, in the mirror and in the byte sent. Basis:
42_write.md R237 (derived there from R226, R227, R230 to R232). -/
def Obligations.SubFieldIndependence : Prop :=
  ∀ (k : Key) (v : Byte) (s t : State),
    (exec (.setAve k v) s = .next t →
      t.mirror.aks = s.mirror.aks ∧
      ∀ ev x, t.history = s.history ++ [ev] → ev.wbytes.getLast? = some x → x.toNat % 4 = s.mirror.aks[k].toNat) ∧
    (exec (.setAks k v) s = .next t →
      t.mirror.ave = s.mirror.ave ∧
      ∀ ev x, t.history = s.history ++ [ev] → ev.wbytes.getLast? = some x → x.toNat / 4 = s.mirror.ave[k].toNat) ∧
    (exec (.setFo v) s = .next t →
      (t.mirror.maxCal = s.mirror.maxCal ∧ t.mirror.guardChannel = s.mirror.guardChannel) ∧
      ∀ ev x, t.history = s.history ++ [ev] → ev.wbytes.getLast? = some x →
        x.toNat % 32 = 16 * s.mirror.maxCal.toNat + s.mirror.guardChannel.toNat) ∧
    (exec (.setMc v) s = .next t →
      (t.mirror.fastOut = s.mirror.fastOut ∧ t.mirror.guardChannel = s.mirror.guardChannel) ∧
      ∀ ev x, t.history = s.history ++ [ev] → ev.wbytes.getLast? = some x →
        x.toNat / 32 = s.mirror.fastOut.toNat ∧ x.toNat % 16 = s.mirror.guardChannel.toNat) ∧
    (exec (.setGuard v) s = .next t →
      (t.mirror.fastOut = s.mirror.fastOut ∧ t.mirror.maxCal = s.mirror.maxCal) ∧
      ∀ ev x, t.history = s.history ++ [ev] → ev.wbytes.getLast? = some x →
        x.toNat / 16 = 2 * s.mirror.fastOut.toNat + s.mirror.maxCal.toNat)

/-- Each writable typed setter is the raw write of the byte it sends. Basis: 42_write.md R238 (derived there
from R211, R212, R174). The choice: the byte WR sends is the spec's own decision D12, log entry 17. -/
def Obligations.SetterEqualsRawWrite : Prop :=
  ∀ (k : Key) (v : Byte) (s : State),
    exec (.setNthr k v) s = exec (.wr (.negativeThreshold k) v) s ∧
    exec (.setDi k v) s = exec (.wr (.detectionIntegrator k) v) s ∧
    exec (.setLp v) s = exec (.wr .lowPowerMode v) s ∧
    exec (.setMaxon v) s = exec (.wr .maxOnDuration v) s ∧
    exec .setCal s = exec (.wr .calibrate 0x01) s ∧
    exec .setRst s = exec (.wr .reset 0x01) s ∧
    (v.toNat < 64 →
      exec (.setAve k v) s = exec (.wr (.aveAks k) (BitVec.ofNat 8 (4 * v.toNat + s.mirror.aks[k].toNat))) s) ∧
    (v.toNat < 4 →
      exec (.setAks k v) s = exec (.wr (.aveAks k) (BitVec.ofNat 8 (4 * s.mirror.ave[k].toNat + v.toNat))) s) ∧
    (v.toNat < 64 → exec (.setFmg v) s = exec (.wr .foMcGuard v) s) ∧
    (v.toNat < 2 →
      exec (.setFo v) s = exec (.wr .foMcGuard
        (BitVec.ofNat 8 (32 * v.toNat + 16 * s.mirror.maxCal.toNat + s.mirror.guardChannel.toNat))) s) ∧
    (v.toNat < 2 →
      exec (.setMc v) s = exec (.wr .foMcGuard
        (BitVec.ofNat 8 (32 * s.mirror.fastOut.toNat + 16 * v.toNat + s.mirror.guardChannel.toNat))) s) ∧
    (v.toNat < 16 →
      exec (.setGuard v) s = exec (.wr .foMcGuard
        (BitVec.ofNat 8 (32 * s.mirror.fastOut.toNat + 16 * s.mirror.maxCal.toNat + v.toNat))) s)

/-- A SET operand that does not fit its field ends with ERR_ILLEGAL and changes nothing. Basis: 30_encoding.md
R107; 42_write.md R212; 60_exceptions.md R311. The choice: refusing and not truncating is the spec's own
decision D15, log entry 13. -/
def Obligations.OversizedOperandIsRefused : Prop :=
  ∀ (k : Key) (v : Byte) (s : State),
    (64 ≤ v.toNat → ∃ t, exec (.setAve k v) s = .next t ∧ Rejected s t .errIllegal) ∧
    (4 ≤ v.toNat → ∃ t, exec (.setAks k v) s = .next t ∧ Rejected s t .errIllegal) ∧
    (64 ≤ v.toNat → ∃ t, exec (.setFmg v) s = .next t ∧ Rejected s t .errIllegal) ∧
    (2 ≤ v.toNat → ∃ t, exec (.setFo v) s = .next t ∧ Rejected s t .errIllegal) ∧
    (2 ≤ v.toNat → ∃ t, exec (.setMc v) s = .next t ∧ Rejected s t .errIllegal) ∧
    (16 ≤ v.toNat → ∃ t, exec (.setGuard v) s = .next t ∧ Rejected s t .errIllegal)

/-- A write whose transaction fails keeps the new mirror value, with no roll back and no retry. Basis:
42_write.md R236 (decision D13). The choice: no roll back is the spec's own decision D13, log entry 17. -/
def Obligations.FailedWriteIsNotRolledBack : Prop :=
  ∀ (i : Instr) (s s' t t' : State), opField (encode i) = 0x20 ∨ opField (encode i) = 0x21 →
    s'.mirror = s.mirror → exec i s = .next t → exec i s' = .next t' →
    t.mirror = t'.mirror ∧
    (∀ e, s.nextReply = .err e → t.history ≠ s.history →
      FailedWith t e ∧
        ∃ r, writtenReg i = some r ∧ writable r = true ∧
          t.history = s.history ++ [writeEvent (addressOf r) (t.mirror.encode r) (.err e)])

/-- A typed getter right after its typed setter answers the value set, whatever the bus replied. Basis:
42_write.md R212, R236; 43_get.md R260, R278. The choice: that the reply does not matter is the spec's own
decision D13, and the flag of GET.GUARD for 8 to 15 its decision D8, both log entry 17. -/
def Obligations.SetThenGetReadsBack : Prop :=
  ∀ (k : Key) (v : Byte) (s t : State),
    (exec (.setNthr k v) s = .next t → ∃ u, exec (.getNthr k) t = .next u ∧ Answered u .ok (v.setWidth 16) false) ∧
    (exec (.setDi k v) s = .next t → ∃ u, exec (.getDi k) t = .next u ∧ Answered u .ok (v.setWidth 16) false) ∧
    (exec (.setLp v) s = .next t → ∃ u, exec .getLp t = .next u ∧ Answered u .ok (v.setWidth 16) false) ∧
    (exec (.setMaxon v) s = .next t → ∃ u, exec .getMaxon t = .next u ∧ Answered u .ok (v.setWidth 16) false) ∧
    (v.toNat < 64 → exec (.setAve k v) s = .next t →
      ∃ u, exec (.getAve k) t = .next u ∧ Answered u .ok (v.setWidth 16) false) ∧
    (v.toNat < 4 → exec (.setAks k v) s = .next t →
      ∃ u, exec (.getAks k) t = .next u ∧ Answered u .ok (v.setWidth 16) false) ∧
    (v.toNat < 64 → exec (.setFmg v) s = .next t →
      ∃ u, exec .getFmg t = .next u ∧ Answered u .ok (v.setWidth 16) false) ∧
    (v.toNat < 2 → exec (.setFo v) s = .next t →
      ∃ u, exec .getFo t = .next u ∧ Answered u .ok (v.setWidth 16) false) ∧
    (v.toNat < 2 → exec (.setMc v) s = .next t →
      ∃ u, exec .getMc t = .next u ∧ Answered u .ok (v.setWidth 16) false) ∧
    (v.toNat < 16 → exec (.setGuard v) s = .next t →
      ∃ u, exec .getGuard t = .next u ∧ Answered u .ok (v.setWidth 16) (decide (7 ≤ v.toNat)))

/-- The getters of the read-only fields and of the thresholds answer the field and change nothing. Basis:
43_get.md R260 to R271. -/
def Obligations.StatusGetterResults : Prop :=
  ∀ (k : Key) (s : State),
    (∃ t, exec .getMajor s = .next t ∧ OnlyAnswered s t (s.mirror.majorId.setWidth 16) false) ∧
    (∃ t, exec .getMinor s = .next t ∧ OnlyAnswered s t (s.mirror.minorId.setWidth 16) false) ∧
    (∃ t, exec .getFw s = .next t ∧ OnlyAnswered s t (s.mirror.firmwareVersion.setWidth 16) false) ∧
    (∃ t, exec .getCalibrating s = .next t ∧ OnlyAnswered s t (BitVec.ofNat 16 s.mirror.dsCalibrate.toNat) false) ∧
    (∃ t, exec .getOverflow s = .next t ∧ OnlyAnswered s t (BitVec.ofNat 16 s.mirror.dsOverflow.toNat) false) ∧
    (∃ t, exec .getTouch s = .next t ∧ OnlyAnswered s t (BitVec.ofNat 16 s.mirror.dsTouch.toNat) false) ∧
    (∃ t, exec .getKeys s = .next t ∧ OnlyAnswered s t (s.mirror.keyTouch.setWidth 16) false) ∧
    (∃ t, exec (.getKeytouch k) s = .next t ∧ OnlyAnswered s t (BitVec.ofNat 16 (s.mirror.keyTouchAt k).toNat) false) ∧
    (∃ t, exec (.getSignal k) s = .next t ∧ OnlyAnswered s t (s.mirror.keySignal[k]) false) ∧
    (∃ t, exec (.getRef k) s = .next t ∧ OnlyAnswered s t (s.mirror.referenceData[k]) false) ∧
    (∃ t, exec (.getNthr k) s = .next t ∧ OnlyAnswered s t (s.mirror.negativeThreshold[k].setWidth 16) false)

/-- The getters of the configuration fields answer the field and change nothing. Basis: 43_get.md R260, R272 to
R283. The choice: GET.GUARD's flag 1 for the values 8 to 15 is the spec's own choice (R278, decision D8, log
entry 17). -/
def Obligations.ConfigurationGetterResults : Prop :=
  ∀ (k : Key) (s : State),
    (∃ t, exec (.getAve k) s = .next t ∧ OnlyAnswered s t (s.mirror.ave[k].setWidth 16) false) ∧
    (∃ t, exec (.getAks k) s = .next t ∧ OnlyAnswered s t (s.mirror.aks[k].setWidth 16) false) ∧
    (∃ t, exec (.getDi k) s = .next t ∧ OnlyAnswered s t (s.mirror.detectionIntegrator[k].setWidth 16) false) ∧
    (∃ t, exec .getFmg s = .next t ∧ OnlyAnswered s t (BitVec.ofNat 16
        (32 * s.mirror.fastOut.toNat + 16 * s.mirror.maxCal.toNat + s.mirror.guardChannel.toNat)) false) ∧
    (∃ t, exec .getFo s = .next t ∧ OnlyAnswered s t (BitVec.ofNat 16 s.mirror.fastOut.toNat) false) ∧
    (∃ t, exec .getMc s = .next t ∧ OnlyAnswered s t (BitVec.ofNat 16 s.mirror.maxCal.toNat) false) ∧
    (∃ t, exec .getGuard s = .next t ∧ OnlyAnswered s t (s.mirror.guardChannel.setWidth 16) (decide (7 ≤ s.mirror.guardChannel.toNat))) ∧
    (∃ t, exec .getLp s = .next t ∧ OnlyAnswered s t (s.mirror.lowPowerMode.setWidth 16) false) ∧
    (∃ t, exec .getMaxon s = .next t ∧ OnlyAnswered s t (s.mirror.maxOnDuration.setWidth 16) false) ∧
    (∃ t, exec .getCal s = .next t ∧ OnlyAnswered s t (s.mirror.calibrate.setWidth 16) false) ∧
    (∃ t, exec .getRst s = .next t ∧ OnlyAnswered s t (s.mirror.reset.setWidth 16) false)

/-- What a cached getter answers depends on the mirror alone. Basis: 20_memory.md R96; 43_get.md R260. -/
def Obligations.CachedAnswersDependOnTheMirrorOnly : Prop :=
  ∀ (i : Instr) (s s' t t' : State),
    opField (encode i) = 0x02 ∨ opField (encode i) = 0x03 ∨ opField (encode i) = 0x30 ∨
      opField (encode i) = 0x31 ∨ opField (encode i) = 0x32 →
    s.mirror = s'.mirror → exec i s = .next t → exec i s' = .next t' →
    ∃ d f, OnlyAnswered s t d f ∧ OnlyAnswered s' t' d f

/-- LPI answers 8 ms per count with 0 read as 1, MOD 160 ms per count with 0 disabled. Basis: 43_get.md R284,
R285, R286. The choice: milliseconds in 16 bits are the spec's own decision D27. -/
def Obligations.DurationsInMilliseconds : Prop :=
  ∀ s : State,
    (∃ t d, exec .lpi s = .next t ∧ OnlyAnswered s t d false ∧
      d.toNat = 8 * max 1 s.mirror.lowPowerMode.toNat ∧ 8 ≤ d.toNat ∧ d.toNat ≤ 2040) ∧
    (∃ t d, exec .mod s = .next t ∧ OnlyAnswered s t d (decide (s.mirror.maxOnDuration.toNat = 0)) ∧
      d.toNat = 160 * s.mirror.maxOnDuration.toNat ∧ d.toNat ≤ 40800)

/-- RD.SIGNAL and RD.REF read MS then LS and answer the composite, stopping at the first failure. Basis:
30_encoding.md R113 (decision D19); 20_memory.md R72. The choice: MS before LS, in two separate transactions, is
the spec's own decision D19, log entry 17; the addresses of key k are its decision D6, log entry 12. -/
def Obligations.FreshSignalAndReferenceReads : Prop :=
  ∀ (k : Key) (s : State) (more : List DeviceReply),
    (∀ ms ls, s.replies = .ok ms :: .ok ls :: more →
      (∃ t, issue (expandRd (.signal k)) s = .next t ∧ Answered t .ok (ms[0] ++ ls[0]) false ∧
        t.mirror = { s.mirror with keySignal := s.mirror.keySignal.set k (ms[0] ++ ls[0]) } ∧
        t.history = s.history ++
          [readEvent (addressOf (.keySignalMs k)) 1 (.ok ms), readEvent (addressOf (.keySignalLs k)) 1 (.ok ls)]) ∧
      (∃ t, issue (expandRd (.ref k)) s = .next t ∧ Answered t .ok (ms[0] ++ ls[0]) false ∧
        t.mirror = { s.mirror with referenceData := s.mirror.referenceData.set k (ms[0] ++ ls[0]) } ∧
        t.history = s.history ++
          [readEvent (addressOf (.referenceDataMs k)) 1 (.ok ms),
           readEvent (addressOf (.referenceDataLs k)) 1 (.ok ls)])) ∧
    (∀ ms e, s.replies = .ok ms :: .err e :: more →
      (∃ t, issue (expandRd (.signal k)) s = .next t ∧ FailedWith t e ∧
        t.mirror = { s.mirror with
          keySignal := s.mirror.keySignal.set k (ms[0] ++ s.mirror.encode (.keySignalLs k)) } ∧
        t.history = s.history ++
          [readEvent (addressOf (.keySignalMs k)) 1 (.ok ms), readEvent (addressOf (.keySignalLs k)) 1 (.err e)]) ∧
      (∃ t, issue (expandRd (.ref k)) s = .next t ∧ FailedWith t e ∧
        t.mirror = { s.mirror with
          referenceData := s.mirror.referenceData.set k (ms[0] ++ s.mirror.encode (.referenceDataLs k)) } ∧
        t.history = s.history ++
          [readEvent (addressOf (.referenceDataMs k)) 1 (.ok ms),
           readEvent (addressOf (.referenceDataLs k)) 1 (.err e)])) ∧
    (∀ e, s.replies = .err e :: more →
      (∃ t, issue (expandRd (.signal k)) s = .next t ∧ FailedWith t e ∧ t.mirror = s.mirror ∧
        t.history = s.history ++ [readEvent (addressOf (.keySignalMs k)) 1 (.err e)]) ∧
      (∃ t, issue (expandRd (.ref k)) s = .next t ∧ FailedWith t e ∧ t.mirror = s.mirror ∧
        t.history = s.history ++ [readEvent (addressOf (.referenceDataMs k)) 1 (.err e)]))

/-- MUT.f changes the field's bits to v and no other bit of the mirror, with no bus traffic; the getter then
answers v. Basis: 30_encoding.md R113, R103; 40_codec.md R147, R167; 70_reset_and_hazards.md R351; log entry 20
(SIGNAL and REF). The choice: that MUT of SIGNAL and REF edits the MS register, then the LS register, is the
model's choice, log entry 20. -/
def Obligations.MutChangesTheFieldsBitsOnly : Prop :=
  ∀ (f : FieldId) (v : Half) (s : State), v.toNat < 2 ^ f.width →
    ∃ t, issue (expandMut f v) s = .next t ∧ endedOk t = true ∧ NoTraffic s t ∧
      (∀ sl ∈ f.slices, ∀ i, i < sl.width →
        (t.mirror.encode sl.reg).getLsbD (sl.lo + i) = v.getLsbD (sl.src + i)) ∧
      (∀ (r : Reg) (i : Nat), (∀ sl ∈ f.slices, sl.reg = r → i < sl.lo ∨ sl.lo + sl.width ≤ i) →
        (t.mirror.encode r).getLsbD i = (s.mirror.encode r).getLsbD i) ∧
      ∃ u b, exec f.get t = .next u ∧ Answered u .ok v b

/-- One poll of WCAL: read DetectionStatus, then test; respond, go on polling, or fail. Basis: 44_system.md
R300, R301, R303. The choice: reading before testing is the spec's own decision D17, log entry 17; one poll a
step is log entry 10. -/
def Obligations.WcalPollResult : Prop :=
  ∀ s : State, ∃ t, exec .wcal s = .next t ∧
    OneTransaction s t (readEvent 0x02 1 s.nextReply) ∧
    (∀ buf, s.nextReply = .ok buf →
      t.mirror =
        { s.mirror with
          dsCalibrate := buf[0].getLsbD 7, dsOverflow := buf[0].getLsbD 6, dsTouch := buf[0].getLsbD 0 } ∧
      (buf[0].getLsbD 7 = false → Answered t .ok ((buf[0] &&& 0xC1).setWidth 16) false) ∧
      (buf[0].getLsbD 7 = true → t.polling = true ∧ t.response = none)) ∧
    (∀ e, s.nextReply = .err e → t.mirror = s.mirror ∧ FailedWith t e)

/-- After m calibrating replies and one clear reply WCAL has issued exactly m + 1 reads and responds. Basis:
44_system.md R301, R300, R303; 90_conflicts.md C4. The choice: reading before testing is the spec's own decision
D17, log entry 17; one poll a step is log entry 10; that words wait is log entry 9. -/
def Obligations.WcalReadsOncePerPoll : Prop :=
  ∀ (s : State) (rest : List Word) (busy : List DeviceReply) (last : Vector Byte 58)
      (more : List DeviceReply),
    Presents s 0x40000000 rest → NoReset s.resets → s.replies = busy ++ .ok last :: more →
    (∀ r ∈ busy, ReadsCalibrating r) → last[0].getLsbD 7 = false →
    (∀ n, 1 ≤ n → n ≤ busy.length →
      ∃ u, Host.Core.run Sys2Proof.core n s = .next u ∧ u.polling = true ∧ u.response = none ∧
        u.history = s.history ++ (busy.take n).map (readEvent 0x02 1)) ∧
    ∃ t, Host.Core.run Sys2Proof.core (busy.length + 1) s = .next t ∧
      Answered t .ok ((last[0] &&& 0xC1).setWidth 16) false ∧
      t.history = s.history ++ (busy ++ [DeviceReply.ok last]).map (readEvent 0x02 1) ∧
      t.mirror = s.mirror.decode .detectionStatus last[0] ∧ t.replies = more ∧ t.commands = rest

/-- WCAL has an infinite run: while every reply reads calibrating and no reset comes it never responds. Basis:
44_system.md R302; 70_reset_and_hazards.md R359; 93_implementation_defined.md U10. The choice: one poll a step
is log entry 10. -/
def Obligations.WcalNeverEndsWhileCalibrating : Prop :=
  ∀ (s : State) (r : DeviceReply), s.polling = true → s.response = none → NoReset s.resets →
    s.replies = [] → s.repliesAfter = some r → ReadsCalibrating r →
    ∀ n, ∃ t, Host.Core.run Sys2Proof.core n s = .next t ∧ t.polling = true ∧ t.response = none ∧
      t.history = s.history ++ List.replicate n (readEvent 0x02 1 r)

/-- Invariant: all bus traffic is one of three shapes, on the map, and never a write past the gate. Basis:
20_memory.md R71, R74, R75, R76, R77, R90; 70_reset_and_hazards.md R360. The choice: that a write to 0x35 has
bits 7:6 clear rests, for WR, on the spec's own decision D12, log entry 17. -/
def Obligations.BusTrafficStaysLegal : Prop :=
  ∀ s t : State, BusOk s → step s = .next t → BusOk t

/-- Invariant: while WCAL polls nothing is answered, the flag reads calibrating, and the last event is its read.
Basis: 44_system.md R300, R303; 30_encoding.md R120. The choice: the phase bit is log entry 10. -/
def Obligations.PollingPhaseStaysConsistent : Prop :=
  ∀ s t : State, PollingOk s → step s = .next t → PollingOk t

/-- Both invariants hold at power-on. Basis: 70_reset_and_hazards.md R342. -/
def Obligations.InvariantsHoldAtReset : Prop :=
  BusOk State.reset ∧ PollingOk State.reset

/-- A read-only register of the mirror changes only by its own DEC or SYNC1, by SYNCA, by WCAL if it is
DetectionStatus, or by reset. Basis: 10_state.md R21 to R26; 42_write.md R210; 40_codec.md R130; 44_system.md
R300, R303; 90_conflicts.md C2. The choice: a poll of WCAL as a step of its own, marked by the phase bit, is the
small-step reading of R303, the model's choice, log entry 10. -/
def Obligations.ReadOnlyRegistersChangeOnlyByDecoding : Prop :=
  ∀ (s t : State) (r : Reg), step s = .next t → writable r = false → t.mirror.encode r ≠ s.mirror.encode r →
    s.resetNow ≠ .off ∨ (s.polling = true ∧ r = .detectionStatus) ∨
    ∃ w rest i, Presents s w rest ∧ decode w = .ok i ∧
      (i = .synca ∨ i = .sync1 r ∨ (∃ b, i = .dec r b) ∨ (i = .wcal ∧ r = .detectionStatus))

/-- Which transactions each command issues: the table of R83, event by event. Basis: 20_memory.md R83, R79, R92.
The choice: one read for an exec of WCAL is the model's small step, log entry 10 (R83 says one or more); that WR
sends the mirror's byte is the spec's own decision D12, log entry 17. -/
def Obligations.TrafficOfEveryCommand : Prop :=
  ∀ (i : Instr) (s t : State), i.wf = true → exec i s = .next t → t.history = s.history ++ trafficOf i s t

/-- A command ends with ERR_TRANSPORT and error e exactly when its transaction was answered Err(e). Basis:
60_exceptions.md R313; 20_memory.md R97; 44_system.md R303. The choice: that for WCAL the history grows by one
event and its transaction is that event holds because one exec is one poll, the small-step reading of R303 and
the model's choice, log entry 10. -/
def Obligations.TransportErrorExactlyWhenTheTransactionFailed : Prop :=
  ∀ (i : Instr) (s t : State) (e : TErr), exec i s = .next t →
    (FailedWith t e ↔ ∃ ev, t.history = s.history ++ [ev] ∧ ev.reply = .err e)

/-- Every command ends with one response, but a WCAL that goes on polling. Basis: 30_encoding.md R120, R124;
44_system.md R303. The choice: that a WCAL may answer a polling state with no response is the phase bit of the
small-step reading of R303, the model's choice, log entry 10. -/
def Obligations.OneResponsePerCommand : Prop :=
  ∀ (i : Instr) (s t : State), exec i s = .next t →
    (t.polling = false ∧ ∃ r, t.response = some r ∧ (r.status ≠ .ok → r.data = 0 ∧ r.flag = false)) ∨
    (i = .wcal ∧ t.polling = true ∧ t.response = none)

/-- A command touches neither the host's inputs nor the replies, but for the one reply its transaction uses.
Basis: 20_memory.md R78, R92; 30_encoding.md R124. The choice: the waiting words, the reset inputs and the
replies are fields of the model's own, log entries 9 and 5, and at most one transaction a step is log entry 10,
all the model's choice. -/
def Obligations.CommandsLeaveTheInputsAlone : Prop :=
  ∀ (i : Instr) (s t : State), exec i s = .next t → NoTraffic s t ∨ ∃ ev, OneTransaction s t ev
end

