-- ==== Sys2Proof/Laws/Codec.lean ====
section
/-! SUPPORT. The codec's equations, one per register group in each direction (40_codec.md R131 to R146, R151 to R166). -/

namespace Sys2Proof.Machine

section
variable (m : Mirror) (k : Key) (b : Byte)

theorem decode_chipId :
    m.decode .chipId b = { m with majorId := b.extractLsb' 4 4, minorId := b.extractLsb' 0 4 } := rfl
theorem decode_firmwareVersion : m.decode .firmwareVersion b = { m with firmwareVersion := b } := rfl
theorem decode_detectionStatus :
    m.decode .detectionStatus b =
      { m with dsCalibrate := b.getLsbD 7, dsOverflow := b.getLsbD 6, dsTouch := b.getLsbD 0 } := rfl
theorem decode_keyStatus : m.decode .keyStatus b = { m with keyTouch := b.extractLsb' 0 7 } := rfl
theorem decode_keySignalMs :
    m.decode (.keySignalMs k) b =
      { m with keySignal := m.keySignal.set k (b ++ (m.keySignal[k]).extractLsb' 0 8) } := rfl
theorem decode_keySignalLs :
    m.decode (.keySignalLs k) b =
      { m with keySignal := m.keySignal.set k ((m.keySignal[k]).extractLsb' 8 8 ++ b) } := rfl
theorem decode_referenceDataMs :
    m.decode (.referenceDataMs k) b =
      { m with referenceData := m.referenceData.set k (b ++ (m.referenceData[k]).extractLsb' 0 8) } := rfl
theorem decode_referenceDataLs :
    m.decode (.referenceDataLs k) b =
      { m with referenceData := m.referenceData.set k ((m.referenceData[k]).extractLsb' 8 8 ++ b) } := rfl
theorem decode_negativeThreshold :
    m.decode (.negativeThreshold k) b = { m with negativeThreshold := m.negativeThreshold.set k b } := rfl
theorem decode_aveAks :
    m.decode (.aveAks k) b =
      { m with ave := m.ave.set k (b.extractLsb' 2 6), aks := m.aks.set k (b.extractLsb' 0 2) } := rfl
theorem decode_detectionIntegrator :
    m.decode (.detectionIntegrator k) b = { m with detectionIntegrator := m.detectionIntegrator.set k b } := rfl
theorem decode_foMcGuard :
    m.decode .foMcGuard b =
      { m with fastOut := b.getLsbD 5, maxCal := b.getLsbD 4, guardChannel := b.extractLsb' 0 4 } := rfl
theorem decode_lowPowerMode : m.decode .lowPowerMode b = { m with lowPowerMode := b } := rfl
theorem decode_maxOnDuration : m.decode .maxOnDuration b = { m with maxOnDuration := b } := rfl
theorem decode_calibrate : m.decode .calibrate b = { m with calibrate := b } := rfl
theorem decode_reset : m.decode .reset b = { m with reset := b } := rfl

theorem encode_chipId : m.encode .chipId = m.majorId ++ m.minorId := rfl
theorem encode_firmwareVersion : m.encode .firmwareVersion = m.firmwareVersion := rfl
theorem encode_detectionStatus :
    m.encode .detectionStatus =
      BitVec.ofBool m.dsCalibrate ++ BitVec.ofBool m.dsOverflow ++ 0#5 ++ BitVec.ofBool m.dsTouch := rfl
theorem encode_keyStatus : m.encode .keyStatus = 0#1 ++ m.keyTouch := rfl
theorem encode_keySignalMs : m.encode (.keySignalMs k) = (m.keySignal[k]).extractLsb' 8 8 := rfl
theorem encode_keySignalLs : m.encode (.keySignalLs k) = (m.keySignal[k]).extractLsb' 0 8 := rfl
theorem encode_referenceDataMs : m.encode (.referenceDataMs k) = (m.referenceData[k]).extractLsb' 8 8 := rfl
theorem encode_referenceDataLs : m.encode (.referenceDataLs k) = (m.referenceData[k]).extractLsb' 0 8 := rfl
theorem encode_negativeThreshold : m.encode (.negativeThreshold k) = m.negativeThreshold[k] := rfl
theorem encode_aveAks : m.encode (.aveAks k) = m.ave[k] ++ m.aks[k] := rfl
theorem encode_detectionIntegrator : m.encode (.detectionIntegrator k) = m.detectionIntegrator[k] := rfl
theorem encode_foMcGuard :
    m.encode .foMcGuard = 0#2 ++ BitVec.ofBool m.fastOut ++ BitVec.ofBool m.maxCal ++ m.guardChannel := rfl
theorem encode_lowPowerMode : m.encode .lowPowerMode = m.lowPowerMode := rfl
theorem encode_maxOnDuration : m.encode .maxOnDuration = m.maxOnDuration := rfl
theorem encode_calibrate : m.encode .calibrate = m.calibrate := rfl
theorem encode_reset : m.encode .reset = m.reset := rfl

end

/-! ### Bits: taking a register byte apart and putting it together -/

theorem nibbles_join : ∀ b : Byte, b.extractLsb' 4 4 ++ b.extractLsb' 0 4 = b := by decide
theorem nibbles_split : ∀ a b : BitVec 4, (a ++ b).extractLsb' 4 4 = a ∧ (a ++ b).extractLsb' 0 4 = b := by decide
theorem aveAks_join : ∀ b : Byte, b.extractLsb' 2 6 ++ b.extractLsb' 0 2 = b := by decide
theorem aveAks_split : ∀ (a : BitVec 6) (b : BitVec 2),
    (a ++ b).extractLsb' 2 6 = a ∧ (a ++ b).extractLsb' 0 2 = b := by decide
theorem status_join : ∀ b : Byte,
    BitVec.ofBool (b.getLsbD 7) ++ BitVec.ofBool (b.getLsbD 6) ++ 0#5 ++ BitVec.ofBool (b.getLsbD 0) = b &&& 0xC1 := by
  decide
theorem status_split : ∀ a b c : Bool,
    let x := BitVec.ofBool a ++ BitVec.ofBool b ++ 0#5 ++ BitVec.ofBool c
    x.getLsbD 7 = a ∧ x.getLsbD 6 = b ∧ x.getLsbD 0 = c := by decide
theorem keys_join : ∀ b : Byte, 0#1 ++ b.extractLsb' 0 7 = b &&& 0x7F := by decide
theorem keys_split : ∀ a : BitVec 7, (0#1 ++ a).extractLsb' 0 7 = a := by decide
theorem foMcGuard_join : ∀ b : Byte,
    0#2 ++ BitVec.ofBool (b.getLsbD 5) ++ BitVec.ofBool (b.getLsbD 4) ++ b.extractLsb' 0 4 = b &&& 0x3F := by decide
theorem foMcGuard_split : ∀ (a b : Bool) (g : BitVec 4),
    let x := 0#2 ++ BitVec.ofBool a ++ BitVec.ofBool b ++ g
    x.getLsbD 5 = a ∧ x.getLsbD 4 = b ∧ x.extractLsb' 0 4 = g := by decide

/-- The MS half of a composite. -/
theorem half_high (a b : Byte) : (a ++ b).extractLsb' 8 8 = a := by
  apply BitVec.eq_of_getLsbD_eq
  intro i hi
  simp only [BitVec.getLsbD_append, BitVec.getLsbD_extractLsb']
  interval_cases i <;> rfl

/-- The LS half of a composite. -/
theorem half_low (a b : Byte) : (a ++ b).extractLsb' 0 8 = b := by
  apply BitVec.eq_of_getLsbD_eq
  intro i hi
  simp only [BitVec.getLsbD_append, BitVec.getLsbD_extractLsb']
  interval_cases i <;> rfl

/-- A composite is its two halves. -/
theorem half_join (x : Half) : x.extractLsb' 8 8 ++ x.extractLsb' 0 8 = x := by
  apply BitVec.eq_of_getLsbD_eq
  intro i hi
  simp only [BitVec.getLsbD_append, BitVec.getLsbD_extractLsb']
  interval_cases i <;> rfl

/-! ### The same in numbers -/

theorem nibbles_toNat : ∀ a b : BitVec 4, (a ++ b).toNat = 16 * a.toNat + b.toNat := by decide
theorem aveAks_toNat : ∀ (a : BitVec 6) (b : BitVec 2), (a ++ b).toNat = 4 * a.toNat + b.toNat := by decide
theorem status_toNat : ∀ a b c : Bool,
    (BitVec.ofBool a ++ BitVec.ofBool b ++ 0#5 ++ BitVec.ofBool c).toNat
      = 128 * a.toNat + 64 * b.toNat + c.toNat := by decide
theorem foMcGuard_toNat : ∀ (a b : Bool) (g : BitVec 4),
    (0#2 ++ BitVec.ofBool a ++ BitVec.ofBool b ++ g).toNat = 32 * a.toNat + 16 * b.toNat + g.toNat := by decide
theorem half_toNat (a b : Byte) : (a ++ b).toNat = 256 * a.toNat + b.toNat := by
  refine (BitVec.toNat_append a b).trans ?_
  rw [← Nat.shiftLeft_add_eq_or_of_lt b.isLt, Nat.shiftLeft_eq]
  omega
theorem half_high_toNat (x : Half) : (x.extractLsb' 8 8).toNat = x.toNat / 256 := by
  simp [BitVec.extractLsb'_toNat, Nat.shiftRight_eq_div_pow]
  omega
theorem half_low_toNat (x : Half) : (x.extractLsb' 0 8).toNat = x.toNat % 256 := by
  simp [BitVec.extractLsb'_toNat]

/-! ### Addresses in numbers, and operands that fit -/

theorem addressOf_perKey : ∀ k : Key,
    ((addressOf (.keySignalMs k)).toNat = 0x04 + 2 * k.val ∧ (addressOf (.keySignalLs k)).toNat = 0x05 + 2 * k.val) ∧
    ((addressOf (.referenceDataMs k)).toNat = 0x12 + 2 * k.val ∧
      (addressOf (.referenceDataLs k)).toNat = 0x13 + 2 * k.val) ∧
    ((addressOf (.negativeThreshold k)).toNat = 0x20 + k.val ∧ (addressOf (.aveAks k)).toNat = 0x27 + k.val ∧
      (addressOf (.detectionIntegrator k)).toNat = 0x2E + k.val) := by decide
theorem fits_six : ∀ v : Byte, v.toNat < 64 → (v.extractLsb' 0 6).toNat = v.toNat := by decide
theorem fits_four : ∀ v : Byte, v.toNat < 16 → (v.extractLsb' 0 4).toNat = v.toNat := by decide
theorem fits_two : ∀ v : Byte, v.toNat < 4 → (v.extractLsb' 0 2).toNat = v.toNat := by decide
theorem fits_one : ∀ v : Byte, v.toNat < 2 →
    v.getLsbD 0 = decide (v.toNat = 1) ∧ (v.getLsbD 0).toNat = v.toNat := by decide

end Sys2Proof.Machine
end

