-- ==== Sys2Proof/Laws/Decode.lean ====
section
/-! SUPPORT. Small facts about command words: the four fields of a packed word, a word packed from its fields, and
key bytes. -/

namespace Sys2Proof

@[simp] theorem opField_packWord (o s k d : Byte) : opField (packWord o s k d) = o := by
  apply BitVec.eq_of_getLsbD_eq
  intro i hi
  simp only [opField, packWord, BitVec.getLsbD_extractLsb', BitVec.getLsbD_append]
  interval_cases i <;> rfl

@[simp] theorem selField_packWord (o s k d : Byte) : selField (packWord o s k d) = s := by
  apply BitVec.eq_of_getLsbD_eq
  intro i hi
  simp only [selField, packWord, BitVec.getLsbD_extractLsb', BitVec.getLsbD_append]
  interval_cases i <;> rfl

@[simp] theorem keyField_packWord (o s k d : Byte) : keyField (packWord o s k d) = k := by
  apply BitVec.eq_of_getLsbD_eq
  intro i hi
  simp only [keyField, packWord, BitVec.getLsbD_extractLsb', BitVec.getLsbD_append]
  interval_cases i <;> rfl

@[simp] theorem dataField_packWord (o s k d : Byte) : dataField (packWord o s k d) = d := by
  apply BitVec.eq_of_getLsbD_eq
  intro i hi
  simp only [dataField, packWord, BitVec.getLsbD_extractLsb', BitVec.getLsbD_append]
  interval_cases i <;> rfl

/-- A word is packed from its own four fields. -/
theorem packWord_fields (w : Word) : packWord (opField w) (selField w) (keyField w) (dataField w) = w := by
  apply BitVec.eq_of_getLsbD_eq
  intro i hi
  simp only [packWord, opField, selField, keyField, dataField, BitVec.getLsbD_append, BitVec.getLsbD_extractLsb']
  interval_cases i <;> rfl

/-- The OP byte alone, as the mask 0xFF000000 selects it. -/
theorem packWord_and_op (o s k d : Byte) : packWord o s k d &&& 0xFF000000#32 = packWord o 0 0 0 := by
  apply BitVec.eq_of_getLsbD_eq
  intro i hi
  simp only [packWord, BitVec.getLsbD_append, BitVec.getLsbD_and]
  interval_cases i <;> simp

/-- The OP and SEL bytes, as the mask 0xFFFF0000 selects them. -/
theorem packWord_and_opSel (o s k d : Byte) : packWord o s k d &&& 0xFFFF0000#32 = packWord o s 0 0 := by
  apply BitVec.eq_of_getLsbD_eq
  intro i hi
  simp only [packWord, BitVec.getLsbD_append, BitVec.getLsbD_and]
  interval_cases i <;> simp

@[simp] theorem keyByte_toNat (k : Key) : (keyByte k).toNat = k.val := by
  have := k.isLt
  simp [keyByte]
  omega

theorem keyByte_injective (j k : Key) (h : keyByte j = keyByte k) : j = k := by
  have h' := congrArg BitVec.toNat h
  rw [keyByte_toNat, keyByte_toNat] at h'
  exact Fin.ext h'

end Sys2Proof
end

