-- ==== Sys2Proof/Laws/State.lean ====
section
/-! SUPPORT. One lemma per field per update of the state and of the mirror, true by rfl. -/

namespace Sys2Proof.Machine

section
variable (s : State) (e : BusEvent)
@[simp] theorem State.record_mirror : (s.record e).mirror = s.mirror := rfl
@[simp] theorem State.record_polling : (s.record e).polling = s.polling := rfl
@[simp] theorem State.record_history : (s.record e).history = s.history ++ [e] := rfl
@[simp] theorem State.record_response : (s.record e).response = s.response := rfl
@[simp] theorem State.record_commands : (s.record e).commands = s.commands := rfl
@[simp] theorem State.record_resets : (s.record e).resets = s.resets := rfl
@[simp] theorem State.record_replies : (s.record e).replies = s.replies.tail := rfl
@[simp] theorem State.record_repliesAfter : (s.record e).repliesAfter = s.repliesAfter := rfl
@[simp] theorem State.record_freeIndex : (s.record e).freeIndex = s.freeIndex := rfl
end

section
variable (s : State) (m : Mirror)
@[simp] theorem State.setMirror_mirror : (s.setMirror m).mirror = m := rfl
@[simp] theorem State.setMirror_polling : (s.setMirror m).polling = s.polling := rfl
@[simp] theorem State.setMirror_history : (s.setMirror m).history = s.history := rfl
@[simp] theorem State.setMirror_response : (s.setMirror m).response = s.response := rfl
@[simp] theorem State.setMirror_commands : (s.setMirror m).commands = s.commands := rfl
@[simp] theorem State.setMirror_resets : (s.setMirror m).resets = s.resets := rfl
@[simp] theorem State.setMirror_replies : (s.setMirror m).replies = s.replies := rfl
@[simp] theorem State.setMirror_repliesAfter : (s.setMirror m).repliesAfter = s.repliesAfter := rfl
@[simp] theorem State.setMirror_freeIndex : (s.setMirror m).freeIndex = s.freeIndex := rfl
end

section
variable (s : State)
@[simp] theorem State.listen_mirror : (s.listen).mirror = s.mirror := rfl
@[simp] theorem State.listen_polling : (s.listen).polling = s.polling := rfl
@[simp] theorem State.listen_history : (s.listen).history = s.history := rfl
@[simp] theorem State.listen_response : (s.listen).response = none := rfl
@[simp] theorem State.listen_commands : (s.listen).commands = s.commands := rfl
@[simp] theorem State.listen_resets : (s.listen).resets = s.resets.tail := rfl
@[simp] theorem State.listen_replies : (s.listen).replies = s.replies := rfl
@[simp] theorem State.listen_repliesAfter : (s.listen).repliesAfter = s.repliesAfter := rfl
@[simp] theorem State.listen_freeIndex : (s.listen).freeIndex = s.freeIndex := rfl
end

section
variable (s : State) (rest : List Word)
@[simp] theorem State.take_mirror : (s.take rest).mirror = s.mirror := rfl
@[simp] theorem State.take_polling : (s.take rest).polling = s.polling := rfl
@[simp] theorem State.take_history : (s.take rest).history = s.history := rfl
@[simp] theorem State.take_response : (s.take rest).response = s.response := rfl
@[simp] theorem State.take_commands : (s.take rest).commands = rest := rfl
@[simp] theorem State.take_resets : (s.take rest).resets = s.resets := rfl
@[simp] theorem State.take_replies : (s.take rest).replies = s.replies := rfl
@[simp] theorem State.take_repliesAfter : (s.take rest).repliesAfter = s.repliesAfter := rfl
@[simp] theorem State.take_freeIndex : (s.take rest).freeIndex = s.freeIndex := rfl
end

section
variable (s : State)
@[simp] theorem abandonPoll_mirror : (abandonPoll s).mirror = Mirror.resetWith Config.resetParams := rfl
@[simp] theorem abandonPoll_polling : (abandonPoll s).polling = false := rfl
@[simp] theorem abandonPoll_history : (abandonPoll s).history = s.history ++ [readEvent 0x02 1 s.nextReply] := rfl
@[simp] theorem abandonPoll_response : (abandonPoll s).response = none := rfl
@[simp] theorem abandonPoll_commands : (abandonPoll s).commands = s.commands := rfl
@[simp] theorem abandonPoll_resets : (abandonPoll s).resets = s.resets := rfl
@[simp] theorem abandonPoll_replies : (abandonPoll s).replies = s.replies.tail := rfl
@[simp] theorem abandonPoll_repliesAfter : (abandonPoll s).repliesAfter = s.repliesAfter := rfl
@[simp] theorem abandonPoll_freeIndex : (abandonPoll s).freeIndex = s.freeIndex := rfl
end

section
variable (st : Status) (d : Half) (f : Bool) (te : Option TErr) (s : State)
@[simp] theorem finish_mirror : (finish st d f te s).mirror = s.mirror := rfl
@[simp] theorem finish_polling : (finish st d f te s).polling = false := rfl
@[simp] theorem finish_history : (finish st d f te s).history = s.history := rfl
@[simp] theorem finish_response : (finish st d f te s).response = 
    some { status := st, data := d, flag := f, terr := te.getD (Config.unspecifiedTErr s.freeIndex) } := rfl
@[simp] theorem finish_commands : (finish st d f te s).commands = s.commands := rfl
@[simp] theorem finish_resets : (finish st d f te s).resets = s.resets := rfl
@[simp] theorem finish_replies : (finish st d f te s).replies = s.replies := rfl
@[simp] theorem finish_repliesAfter : (finish st d f te s).repliesAfter = s.repliesAfter := rfl
@[simp] theorem finish_freeIndex : (finish st d f te s).freeIndex = s.freeIndex + 1 := rfl
end

section
variable (d : Half) (f : Bool) (s : State)
@[simp] theorem respond_mirror : (respond d f s).mirror = s.mirror := rfl
@[simp] theorem respond_polling : (respond d f s).polling = false := rfl
@[simp] theorem respond_history : (respond d f s).history = s.history := rfl
@[simp] theorem respond_response : (respond d f s).response = 
    some { status := .ok, data := d, flag := f, terr := Config.unspecifiedTErr s.freeIndex } := rfl
@[simp] theorem respond_commands : (respond d f s).commands = s.commands := rfl
@[simp] theorem respond_resets : (respond d f s).resets = s.resets := rfl
@[simp] theorem respond_replies : (respond d f s).replies = s.replies := rfl
@[simp] theorem respond_repliesAfter : (respond d f s).repliesAfter = s.repliesAfter := rfl
@[simp] theorem respond_freeIndex : (respond d f s).freeIndex = s.freeIndex + 1 := rfl
end

section
variable (c : Cause) (s : State)
@[simp] theorem raise_mirror : (raise c s).mirror = s.mirror := rfl
@[simp] theorem raise_polling : (raise c s).polling = false := rfl
@[simp] theorem raise_history : (raise c s).history = s.history := rfl
@[simp] theorem raise_response : (raise c s).response = 
    some { status := c.status, data := 0, flag := false, terr := c.terr.getD (Config.unspecifiedTErr s.freeIndex) } := rfl
@[simp] theorem raise_commands : (raise c s).commands = s.commands := rfl
@[simp] theorem raise_resets : (raise c s).resets = s.resets := rfl
@[simp] theorem raise_replies : (raise c s).replies = s.replies := rfl
@[simp] theorem raise_repliesAfter : (raise c s).repliesAfter = s.repliesAfter := rfl
@[simp] theorem raise_freeIndex : (raise c s).freeIndex = s.freeIndex + 1 := rfl
end

section
variable (s : State)
@[simp] theorem drop_mirror : (drop s).mirror = s.mirror := rfl
@[simp] theorem drop_polling : (drop s).polling = false := rfl
@[simp] theorem drop_history : (drop s).history = s.history := rfl
@[simp] theorem drop_response : (drop s).response = 
    some { status := .ok, data := 0, flag := true, terr := Config.unspecifiedTErr s.freeIndex } := rfl
@[simp] theorem drop_commands : (drop s).commands = s.commands := rfl
@[simp] theorem drop_resets : (drop s).resets = s.resets := rfl
@[simp] theorem drop_replies : (drop s).replies = s.replies := rfl
@[simp] theorem drop_repliesAfter : (drop s).repliesAfter = s.repliesAfter := rfl
@[simp] theorem drop_freeIndex : (drop s).freeIndex = s.freeIndex + 1 := rfl
end

section
variable (s : State)
@[simp] theorem applyReset_mirror : (applyReset s).mirror = Mirror.resetWith Config.resetParams := rfl
@[simp] theorem applyReset_polling : (applyReset s).polling = false := rfl
@[simp] theorem applyReset_history : (applyReset s).history = s.history := rfl
@[simp] theorem applyReset_response : (applyReset s).response = none := rfl
@[simp] theorem applyReset_commands : (applyReset s).commands = s.commands := rfl
@[simp] theorem applyReset_resets : (applyReset s).resets = s.resets := rfl
@[simp] theorem applyReset_replies : (applyReset s).replies = s.replies := rfl
@[simp] theorem applyReset_repliesAfter : (applyReset s).repliesAfter = s.repliesAfter := rfl
@[simp] theorem applyReset_freeIndex : (applyReset s).freeIndex = s.freeIndex := rfl
end

section
variable (w : Word) (s : State)
@[simp] theorem present_mirror : (present w s).mirror = s.mirror := rfl
@[simp] theorem present_polling : (present w s).polling = false := rfl
@[simp] theorem present_history : (present w s).history = s.history := rfl
@[simp] theorem present_response : (present w s).response = s.response := rfl
@[simp] theorem present_commands : (present w s).commands = w :: s.commands := rfl
@[simp] theorem present_resets : (present w s).resets = .off :: s.resets := rfl
@[simp] theorem present_replies : (present w s).replies = s.replies := rfl
@[simp] theorem present_repliesAfter : (present w s).repliesAfter = s.repliesAfter := rfl
@[simp] theorem present_freeIndex : (present w s).freeIndex = s.freeIndex := rfl
end

section
variable (s : State)
@[simp] theorem keepPolling_mirror : (keepPolling s).mirror = s.mirror := rfl
@[simp] theorem keepPolling_polling : (keepPolling s).polling = true := rfl
@[simp] theorem keepPolling_history : (keepPolling s).history = s.history := rfl
@[simp] theorem keepPolling_response : (keepPolling s).response = none := rfl
@[simp] theorem keepPolling_commands : (keepPolling s).commands = s.commands := rfl
@[simp] theorem keepPolling_resets : (keepPolling s).resets = s.resets := rfl
@[simp] theorem keepPolling_replies : (keepPolling s).replies = s.replies := rfl
@[simp] theorem keepPolling_repliesAfter : (keepPolling s).repliesAfter = s.repliesAfter := rfl
@[simp] theorem keepPolling_freeIndex : (keepPolling s).freeIndex = s.freeIndex := rfl
end

section
variable (m : Mirror) (k : Key) (v : Byte)
@[simp] theorem Mirror.setNthr_majorId : (m.setNthr k v).majorId = m.majorId := rfl
@[simp] theorem Mirror.setNthr_minorId : (m.setNthr k v).minorId = m.minorId := rfl
@[simp] theorem Mirror.setNthr_firmwareVersion : (m.setNthr k v).firmwareVersion = m.firmwareVersion := rfl
@[simp] theorem Mirror.setNthr_dsCalibrate : (m.setNthr k v).dsCalibrate = m.dsCalibrate := rfl
@[simp] theorem Mirror.setNthr_dsOverflow : (m.setNthr k v).dsOverflow = m.dsOverflow := rfl
@[simp] theorem Mirror.setNthr_dsTouch : (m.setNthr k v).dsTouch = m.dsTouch := rfl
@[simp] theorem Mirror.setNthr_keyTouch : (m.setNthr k v).keyTouch = m.keyTouch := rfl
@[simp] theorem Mirror.setNthr_keySignal : (m.setNthr k v).keySignal = m.keySignal := rfl
@[simp] theorem Mirror.setNthr_referenceData : (m.setNthr k v).referenceData = m.referenceData := rfl
@[simp] theorem Mirror.setNthr_negativeThreshold : (m.setNthr k v).negativeThreshold = m.negativeThreshold.set k v := rfl
@[simp] theorem Mirror.setNthr_ave : (m.setNthr k v).ave = m.ave := rfl
@[simp] theorem Mirror.setNthr_aks : (m.setNthr k v).aks = m.aks := rfl
@[simp] theorem Mirror.setNthr_detectionIntegrator : (m.setNthr k v).detectionIntegrator = m.detectionIntegrator := rfl
@[simp] theorem Mirror.setNthr_fastOut : (m.setNthr k v).fastOut = m.fastOut := rfl
@[simp] theorem Mirror.setNthr_maxCal : (m.setNthr k v).maxCal = m.maxCal := rfl
@[simp] theorem Mirror.setNthr_guardChannel : (m.setNthr k v).guardChannel = m.guardChannel := rfl
@[simp] theorem Mirror.setNthr_lowPowerMode : (m.setNthr k v).lowPowerMode = m.lowPowerMode := rfl
@[simp] theorem Mirror.setNthr_maxOnDuration : (m.setNthr k v).maxOnDuration = m.maxOnDuration := rfl
@[simp] theorem Mirror.setNthr_calibrate : (m.setNthr k v).calibrate = m.calibrate := rfl
@[simp] theorem Mirror.setNthr_reset : (m.setNthr k v).reset = m.reset := rfl
end

section
variable (m : Mirror) (k : Key) (v : Byte)
@[simp] theorem Mirror.setAve_majorId : (m.setAve k v).majorId = m.majorId := rfl
@[simp] theorem Mirror.setAve_minorId : (m.setAve k v).minorId = m.minorId := rfl
@[simp] theorem Mirror.setAve_firmwareVersion : (m.setAve k v).firmwareVersion = m.firmwareVersion := rfl
@[simp] theorem Mirror.setAve_dsCalibrate : (m.setAve k v).dsCalibrate = m.dsCalibrate := rfl
@[simp] theorem Mirror.setAve_dsOverflow : (m.setAve k v).dsOverflow = m.dsOverflow := rfl
@[simp] theorem Mirror.setAve_dsTouch : (m.setAve k v).dsTouch = m.dsTouch := rfl
@[simp] theorem Mirror.setAve_keyTouch : (m.setAve k v).keyTouch = m.keyTouch := rfl
@[simp] theorem Mirror.setAve_keySignal : (m.setAve k v).keySignal = m.keySignal := rfl
@[simp] theorem Mirror.setAve_referenceData : (m.setAve k v).referenceData = m.referenceData := rfl
@[simp] theorem Mirror.setAve_negativeThreshold : (m.setAve k v).negativeThreshold = m.negativeThreshold := rfl
@[simp] theorem Mirror.setAve_ave : (m.setAve k v).ave = m.ave.set k (v.extractLsb' 0 6) := rfl
@[simp] theorem Mirror.setAve_aks : (m.setAve k v).aks = m.aks := rfl
@[simp] theorem Mirror.setAve_detectionIntegrator : (m.setAve k v).detectionIntegrator = m.detectionIntegrator := rfl
@[simp] theorem Mirror.setAve_fastOut : (m.setAve k v).fastOut = m.fastOut := rfl
@[simp] theorem Mirror.setAve_maxCal : (m.setAve k v).maxCal = m.maxCal := rfl
@[simp] theorem Mirror.setAve_guardChannel : (m.setAve k v).guardChannel = m.guardChannel := rfl
@[simp] theorem Mirror.setAve_lowPowerMode : (m.setAve k v).lowPowerMode = m.lowPowerMode := rfl
@[simp] theorem Mirror.setAve_maxOnDuration : (m.setAve k v).maxOnDuration = m.maxOnDuration := rfl
@[simp] theorem Mirror.setAve_calibrate : (m.setAve k v).calibrate = m.calibrate := rfl
@[simp] theorem Mirror.setAve_reset : (m.setAve k v).reset = m.reset := rfl
end

section
variable (m : Mirror) (k : Key) (v : Byte)
@[simp] theorem Mirror.setAks_majorId : (m.setAks k v).majorId = m.majorId := rfl
@[simp] theorem Mirror.setAks_minorId : (m.setAks k v).minorId = m.minorId := rfl
@[simp] theorem Mirror.setAks_firmwareVersion : (m.setAks k v).firmwareVersion = m.firmwareVersion := rfl
@[simp] theorem Mirror.setAks_dsCalibrate : (m.setAks k v).dsCalibrate = m.dsCalibrate := rfl
@[simp] theorem Mirror.setAks_dsOverflow : (m.setAks k v).dsOverflow = m.dsOverflow := rfl
@[simp] theorem Mirror.setAks_dsTouch : (m.setAks k v).dsTouch = m.dsTouch := rfl
@[simp] theorem Mirror.setAks_keyTouch : (m.setAks k v).keyTouch = m.keyTouch := rfl
@[simp] theorem Mirror.setAks_keySignal : (m.setAks k v).keySignal = m.keySignal := rfl
@[simp] theorem Mirror.setAks_referenceData : (m.setAks k v).referenceData = m.referenceData := rfl
@[simp] theorem Mirror.setAks_negativeThreshold : (m.setAks k v).negativeThreshold = m.negativeThreshold := rfl
@[simp] theorem Mirror.setAks_ave : (m.setAks k v).ave = m.ave := rfl
@[simp] theorem Mirror.setAks_aks : (m.setAks k v).aks = m.aks.set k (v.extractLsb' 0 2) := rfl
@[simp] theorem Mirror.setAks_detectionIntegrator : (m.setAks k v).detectionIntegrator = m.detectionIntegrator := rfl
@[simp] theorem Mirror.setAks_fastOut : (m.setAks k v).fastOut = m.fastOut := rfl
@[simp] theorem Mirror.setAks_maxCal : (m.setAks k v).maxCal = m.maxCal := rfl
@[simp] theorem Mirror.setAks_guardChannel : (m.setAks k v).guardChannel = m.guardChannel := rfl
@[simp] theorem Mirror.setAks_lowPowerMode : (m.setAks k v).lowPowerMode = m.lowPowerMode := rfl
@[simp] theorem Mirror.setAks_maxOnDuration : (m.setAks k v).maxOnDuration = m.maxOnDuration := rfl
@[simp] theorem Mirror.setAks_calibrate : (m.setAks k v).calibrate = m.calibrate := rfl
@[simp] theorem Mirror.setAks_reset : (m.setAks k v).reset = m.reset := rfl
end

section
variable (m : Mirror) (k : Key) (v : Byte)
@[simp] theorem Mirror.setDi_majorId : (m.setDi k v).majorId = m.majorId := rfl
@[simp] theorem Mirror.setDi_minorId : (m.setDi k v).minorId = m.minorId := rfl
@[simp] theorem Mirror.setDi_firmwareVersion : (m.setDi k v).firmwareVersion = m.firmwareVersion := rfl
@[simp] theorem Mirror.setDi_dsCalibrate : (m.setDi k v).dsCalibrate = m.dsCalibrate := rfl
@[simp] theorem Mirror.setDi_dsOverflow : (m.setDi k v).dsOverflow = m.dsOverflow := rfl
@[simp] theorem Mirror.setDi_dsTouch : (m.setDi k v).dsTouch = m.dsTouch := rfl
@[simp] theorem Mirror.setDi_keyTouch : (m.setDi k v).keyTouch = m.keyTouch := rfl
@[simp] theorem Mirror.setDi_keySignal : (m.setDi k v).keySignal = m.keySignal := rfl
@[simp] theorem Mirror.setDi_referenceData : (m.setDi k v).referenceData = m.referenceData := rfl
@[simp] theorem Mirror.setDi_negativeThreshold : (m.setDi k v).negativeThreshold = m.negativeThreshold := rfl
@[simp] theorem Mirror.setDi_ave : (m.setDi k v).ave = m.ave := rfl
@[simp] theorem Mirror.setDi_aks : (m.setDi k v).aks = m.aks := rfl
@[simp] theorem Mirror.setDi_detectionIntegrator : (m.setDi k v).detectionIntegrator = m.detectionIntegrator.set k v := rfl
@[simp] theorem Mirror.setDi_fastOut : (m.setDi k v).fastOut = m.fastOut := rfl
@[simp] theorem Mirror.setDi_maxCal : (m.setDi k v).maxCal = m.maxCal := rfl
@[simp] theorem Mirror.setDi_guardChannel : (m.setDi k v).guardChannel = m.guardChannel := rfl
@[simp] theorem Mirror.setDi_lowPowerMode : (m.setDi k v).lowPowerMode = m.lowPowerMode := rfl
@[simp] theorem Mirror.setDi_maxOnDuration : (m.setDi k v).maxOnDuration = m.maxOnDuration := rfl
@[simp] theorem Mirror.setDi_calibrate : (m.setDi k v).calibrate = m.calibrate := rfl
@[simp] theorem Mirror.setDi_reset : (m.setDi k v).reset = m.reset := rfl
end

section
variable (m : Mirror) (v : Byte)
@[simp] theorem Mirror.setFmg_majorId : (m.setFmg v).majorId = m.majorId := rfl
@[simp] theorem Mirror.setFmg_minorId : (m.setFmg v).minorId = m.minorId := rfl
@[simp] theorem Mirror.setFmg_firmwareVersion : (m.setFmg v).firmwareVersion = m.firmwareVersion := rfl
@[simp] theorem Mirror.setFmg_dsCalibrate : (m.setFmg v).dsCalibrate = m.dsCalibrate := rfl
@[simp] theorem Mirror.setFmg_dsOverflow : (m.setFmg v).dsOverflow = m.dsOverflow := rfl
@[simp] theorem Mirror.setFmg_dsTouch : (m.setFmg v).dsTouch = m.dsTouch := rfl
@[simp] theorem Mirror.setFmg_keyTouch : (m.setFmg v).keyTouch = m.keyTouch := rfl
@[simp] theorem Mirror.setFmg_keySignal : (m.setFmg v).keySignal = m.keySignal := rfl
@[simp] theorem Mirror.setFmg_referenceData : (m.setFmg v).referenceData = m.referenceData := rfl
@[simp] theorem Mirror.setFmg_negativeThreshold : (m.setFmg v).negativeThreshold = m.negativeThreshold := rfl
@[simp] theorem Mirror.setFmg_ave : (m.setFmg v).ave = m.ave := rfl
@[simp] theorem Mirror.setFmg_aks : (m.setFmg v).aks = m.aks := rfl
@[simp] theorem Mirror.setFmg_detectionIntegrator : (m.setFmg v).detectionIntegrator = m.detectionIntegrator := rfl
@[simp] theorem Mirror.setFmg_fastOut : (m.setFmg v).fastOut = v.getLsbD 5 := rfl
@[simp] theorem Mirror.setFmg_maxCal : (m.setFmg v).maxCal = v.getLsbD 4 := rfl
@[simp] theorem Mirror.setFmg_guardChannel : (m.setFmg v).guardChannel = v.extractLsb' 0 4 := rfl
@[simp] theorem Mirror.setFmg_lowPowerMode : (m.setFmg v).lowPowerMode = m.lowPowerMode := rfl
@[simp] theorem Mirror.setFmg_maxOnDuration : (m.setFmg v).maxOnDuration = m.maxOnDuration := rfl
@[simp] theorem Mirror.setFmg_calibrate : (m.setFmg v).calibrate = m.calibrate := rfl
@[simp] theorem Mirror.setFmg_reset : (m.setFmg v).reset = m.reset := rfl
end

section
variable (m : Mirror) (v : Byte)
@[simp] theorem Mirror.setFo_majorId : (m.setFo v).majorId = m.majorId := rfl
@[simp] theorem Mirror.setFo_minorId : (m.setFo v).minorId = m.minorId := rfl
@[simp] theorem Mirror.setFo_firmwareVersion : (m.setFo v).firmwareVersion = m.firmwareVersion := rfl
@[simp] theorem Mirror.setFo_dsCalibrate : (m.setFo v).dsCalibrate = m.dsCalibrate := rfl
@[simp] theorem Mirror.setFo_dsOverflow : (m.setFo v).dsOverflow = m.dsOverflow := rfl
@[simp] theorem Mirror.setFo_dsTouch : (m.setFo v).dsTouch = m.dsTouch := rfl
@[simp] theorem Mirror.setFo_keyTouch : (m.setFo v).keyTouch = m.keyTouch := rfl
@[simp] theorem Mirror.setFo_keySignal : (m.setFo v).keySignal = m.keySignal := rfl
@[simp] theorem Mirror.setFo_referenceData : (m.setFo v).referenceData = m.referenceData := rfl
@[simp] theorem Mirror.setFo_negativeThreshold : (m.setFo v).negativeThreshold = m.negativeThreshold := rfl
@[simp] theorem Mirror.setFo_ave : (m.setFo v).ave = m.ave := rfl
@[simp] theorem Mirror.setFo_aks : (m.setFo v).aks = m.aks := rfl
@[simp] theorem Mirror.setFo_detectionIntegrator : (m.setFo v).detectionIntegrator = m.detectionIntegrator := rfl
@[simp] theorem Mirror.setFo_fastOut : (m.setFo v).fastOut = v.getLsbD 0 := rfl
@[simp] theorem Mirror.setFo_maxCal : (m.setFo v).maxCal = m.maxCal := rfl
@[simp] theorem Mirror.setFo_guardChannel : (m.setFo v).guardChannel = m.guardChannel := rfl
@[simp] theorem Mirror.setFo_lowPowerMode : (m.setFo v).lowPowerMode = m.lowPowerMode := rfl
@[simp] theorem Mirror.setFo_maxOnDuration : (m.setFo v).maxOnDuration = m.maxOnDuration := rfl
@[simp] theorem Mirror.setFo_calibrate : (m.setFo v).calibrate = m.calibrate := rfl
@[simp] theorem Mirror.setFo_reset : (m.setFo v).reset = m.reset := rfl
end

section
variable (m : Mirror) (v : Byte)
@[simp] theorem Mirror.setMc_majorId : (m.setMc v).majorId = m.majorId := rfl
@[simp] theorem Mirror.setMc_minorId : (m.setMc v).minorId = m.minorId := rfl
@[simp] theorem Mirror.setMc_firmwareVersion : (m.setMc v).firmwareVersion = m.firmwareVersion := rfl
@[simp] theorem Mirror.setMc_dsCalibrate : (m.setMc v).dsCalibrate = m.dsCalibrate := rfl
@[simp] theorem Mirror.setMc_dsOverflow : (m.setMc v).dsOverflow = m.dsOverflow := rfl
@[simp] theorem Mirror.setMc_dsTouch : (m.setMc v).dsTouch = m.dsTouch := rfl
@[simp] theorem Mirror.setMc_keyTouch : (m.setMc v).keyTouch = m.keyTouch := rfl
@[simp] theorem Mirror.setMc_keySignal : (m.setMc v).keySignal = m.keySignal := rfl
@[simp] theorem Mirror.setMc_referenceData : (m.setMc v).referenceData = m.referenceData := rfl
@[simp] theorem Mirror.setMc_negativeThreshold : (m.setMc v).negativeThreshold = m.negativeThreshold := rfl
@[simp] theorem Mirror.setMc_ave : (m.setMc v).ave = m.ave := rfl
@[simp] theorem Mirror.setMc_aks : (m.setMc v).aks = m.aks := rfl
@[simp] theorem Mirror.setMc_detectionIntegrator : (m.setMc v).detectionIntegrator = m.detectionIntegrator := rfl
@[simp] theorem Mirror.setMc_fastOut : (m.setMc v).fastOut = m.fastOut := rfl
@[simp] theorem Mirror.setMc_maxCal : (m.setMc v).maxCal = v.getLsbD 0 := rfl
@[simp] theorem Mirror.setMc_guardChannel : (m.setMc v).guardChannel = m.guardChannel := rfl
@[simp] theorem Mirror.setMc_lowPowerMode : (m.setMc v).lowPowerMode = m.lowPowerMode := rfl
@[simp] theorem Mirror.setMc_maxOnDuration : (m.setMc v).maxOnDuration = m.maxOnDuration := rfl
@[simp] theorem Mirror.setMc_calibrate : (m.setMc v).calibrate = m.calibrate := rfl
@[simp] theorem Mirror.setMc_reset : (m.setMc v).reset = m.reset := rfl
end

section
variable (m : Mirror) (v : Byte)
@[simp] theorem Mirror.setGuard_majorId : (m.setGuard v).majorId = m.majorId := rfl
@[simp] theorem Mirror.setGuard_minorId : (m.setGuard v).minorId = m.minorId := rfl
@[simp] theorem Mirror.setGuard_firmwareVersion : (m.setGuard v).firmwareVersion = m.firmwareVersion := rfl
@[simp] theorem Mirror.setGuard_dsCalibrate : (m.setGuard v).dsCalibrate = m.dsCalibrate := rfl
@[simp] theorem Mirror.setGuard_dsOverflow : (m.setGuard v).dsOverflow = m.dsOverflow := rfl
@[simp] theorem Mirror.setGuard_dsTouch : (m.setGuard v).dsTouch = m.dsTouch := rfl
@[simp] theorem Mirror.setGuard_keyTouch : (m.setGuard v).keyTouch = m.keyTouch := rfl
@[simp] theorem Mirror.setGuard_keySignal : (m.setGuard v).keySignal = m.keySignal := rfl
@[simp] theorem Mirror.setGuard_referenceData : (m.setGuard v).referenceData = m.referenceData := rfl
@[simp] theorem Mirror.setGuard_negativeThreshold : (m.setGuard v).negativeThreshold = m.negativeThreshold := rfl
@[simp] theorem Mirror.setGuard_ave : (m.setGuard v).ave = m.ave := rfl
@[simp] theorem Mirror.setGuard_aks : (m.setGuard v).aks = m.aks := rfl
@[simp] theorem Mirror.setGuard_detectionIntegrator : (m.setGuard v).detectionIntegrator = m.detectionIntegrator := rfl
@[simp] theorem Mirror.setGuard_fastOut : (m.setGuard v).fastOut = m.fastOut := rfl
@[simp] theorem Mirror.setGuard_maxCal : (m.setGuard v).maxCal = m.maxCal := rfl
@[simp] theorem Mirror.setGuard_guardChannel : (m.setGuard v).guardChannel = v.extractLsb' 0 4 := rfl
@[simp] theorem Mirror.setGuard_lowPowerMode : (m.setGuard v).lowPowerMode = m.lowPowerMode := rfl
@[simp] theorem Mirror.setGuard_maxOnDuration : (m.setGuard v).maxOnDuration = m.maxOnDuration := rfl
@[simp] theorem Mirror.setGuard_calibrate : (m.setGuard v).calibrate = m.calibrate := rfl
@[simp] theorem Mirror.setGuard_reset : (m.setGuard v).reset = m.reset := rfl
end

section
variable (m : Mirror) (v : Byte)
@[simp] theorem Mirror.setLp_majorId : (m.setLp v).majorId = m.majorId := rfl
@[simp] theorem Mirror.setLp_minorId : (m.setLp v).minorId = m.minorId := rfl
@[simp] theorem Mirror.setLp_firmwareVersion : (m.setLp v).firmwareVersion = m.firmwareVersion := rfl
@[simp] theorem Mirror.setLp_dsCalibrate : (m.setLp v).dsCalibrate = m.dsCalibrate := rfl
@[simp] theorem Mirror.setLp_dsOverflow : (m.setLp v).dsOverflow = m.dsOverflow := rfl
@[simp] theorem Mirror.setLp_dsTouch : (m.setLp v).dsTouch = m.dsTouch := rfl
@[simp] theorem Mirror.setLp_keyTouch : (m.setLp v).keyTouch = m.keyTouch := rfl
@[simp] theorem Mirror.setLp_keySignal : (m.setLp v).keySignal = m.keySignal := rfl
@[simp] theorem Mirror.setLp_referenceData : (m.setLp v).referenceData = m.referenceData := rfl
@[simp] theorem Mirror.setLp_negativeThreshold : (m.setLp v).negativeThreshold = m.negativeThreshold := rfl
@[simp] theorem Mirror.setLp_ave : (m.setLp v).ave = m.ave := rfl
@[simp] theorem Mirror.setLp_aks : (m.setLp v).aks = m.aks := rfl
@[simp] theorem Mirror.setLp_detectionIntegrator : (m.setLp v).detectionIntegrator = m.detectionIntegrator := rfl
@[simp] theorem Mirror.setLp_fastOut : (m.setLp v).fastOut = m.fastOut := rfl
@[simp] theorem Mirror.setLp_maxCal : (m.setLp v).maxCal = m.maxCal := rfl
@[simp] theorem Mirror.setLp_guardChannel : (m.setLp v).guardChannel = m.guardChannel := rfl
@[simp] theorem Mirror.setLp_lowPowerMode : (m.setLp v).lowPowerMode = v := rfl
@[simp] theorem Mirror.setLp_maxOnDuration : (m.setLp v).maxOnDuration = m.maxOnDuration := rfl
@[simp] theorem Mirror.setLp_calibrate : (m.setLp v).calibrate = m.calibrate := rfl
@[simp] theorem Mirror.setLp_reset : (m.setLp v).reset = m.reset := rfl
end

section
variable (m : Mirror) (v : Byte)
@[simp] theorem Mirror.setMaxon_majorId : (m.setMaxon v).majorId = m.majorId := rfl
@[simp] theorem Mirror.setMaxon_minorId : (m.setMaxon v).minorId = m.minorId := rfl
@[simp] theorem Mirror.setMaxon_firmwareVersion : (m.setMaxon v).firmwareVersion = m.firmwareVersion := rfl
@[simp] theorem Mirror.setMaxon_dsCalibrate : (m.setMaxon v).dsCalibrate = m.dsCalibrate := rfl
@[simp] theorem Mirror.setMaxon_dsOverflow : (m.setMaxon v).dsOverflow = m.dsOverflow := rfl
@[simp] theorem Mirror.setMaxon_dsTouch : (m.setMaxon v).dsTouch = m.dsTouch := rfl
@[simp] theorem Mirror.setMaxon_keyTouch : (m.setMaxon v).keyTouch = m.keyTouch := rfl
@[simp] theorem Mirror.setMaxon_keySignal : (m.setMaxon v).keySignal = m.keySignal := rfl
@[simp] theorem Mirror.setMaxon_referenceData : (m.setMaxon v).referenceData = m.referenceData := rfl
@[simp] theorem Mirror.setMaxon_negativeThreshold : (m.setMaxon v).negativeThreshold = m.negativeThreshold := rfl
@[simp] theorem Mirror.setMaxon_ave : (m.setMaxon v).ave = m.ave := rfl
@[simp] theorem Mirror.setMaxon_aks : (m.setMaxon v).aks = m.aks := rfl
@[simp] theorem Mirror.setMaxon_detectionIntegrator : (m.setMaxon v).detectionIntegrator = m.detectionIntegrator := rfl
@[simp] theorem Mirror.setMaxon_fastOut : (m.setMaxon v).fastOut = m.fastOut := rfl
@[simp] theorem Mirror.setMaxon_maxCal : (m.setMaxon v).maxCal = m.maxCal := rfl
@[simp] theorem Mirror.setMaxon_guardChannel : (m.setMaxon v).guardChannel = m.guardChannel := rfl
@[simp] theorem Mirror.setMaxon_lowPowerMode : (m.setMaxon v).lowPowerMode = m.lowPowerMode := rfl
@[simp] theorem Mirror.setMaxon_maxOnDuration : (m.setMaxon v).maxOnDuration = v := rfl
@[simp] theorem Mirror.setMaxon_calibrate : (m.setMaxon v).calibrate = m.calibrate := rfl
@[simp] theorem Mirror.setMaxon_reset : (m.setMaxon v).reset = m.reset := rfl
end

section
variable (m : Mirror)
@[simp] theorem Mirror.setCal_majorId : (m.setCal).majorId = m.majorId := rfl
@[simp] theorem Mirror.setCal_minorId : (m.setCal).minorId = m.minorId := rfl
@[simp] theorem Mirror.setCal_firmwareVersion : (m.setCal).firmwareVersion = m.firmwareVersion := rfl
@[simp] theorem Mirror.setCal_dsCalibrate : (m.setCal).dsCalibrate = m.dsCalibrate := rfl
@[simp] theorem Mirror.setCal_dsOverflow : (m.setCal).dsOverflow = m.dsOverflow := rfl
@[simp] theorem Mirror.setCal_dsTouch : (m.setCal).dsTouch = m.dsTouch := rfl
@[simp] theorem Mirror.setCal_keyTouch : (m.setCal).keyTouch = m.keyTouch := rfl
@[simp] theorem Mirror.setCal_keySignal : (m.setCal).keySignal = m.keySignal := rfl
@[simp] theorem Mirror.setCal_referenceData : (m.setCal).referenceData = m.referenceData := rfl
@[simp] theorem Mirror.setCal_negativeThreshold : (m.setCal).negativeThreshold = m.negativeThreshold := rfl
@[simp] theorem Mirror.setCal_ave : (m.setCal).ave = m.ave := rfl
@[simp] theorem Mirror.setCal_aks : (m.setCal).aks = m.aks := rfl
@[simp] theorem Mirror.setCal_detectionIntegrator : (m.setCal).detectionIntegrator = m.detectionIntegrator := rfl
@[simp] theorem Mirror.setCal_fastOut : (m.setCal).fastOut = m.fastOut := rfl
@[simp] theorem Mirror.setCal_maxCal : (m.setCal).maxCal = m.maxCal := rfl
@[simp] theorem Mirror.setCal_guardChannel : (m.setCal).guardChannel = m.guardChannel := rfl
@[simp] theorem Mirror.setCal_lowPowerMode : (m.setCal).lowPowerMode = m.lowPowerMode := rfl
@[simp] theorem Mirror.setCal_maxOnDuration : (m.setCal).maxOnDuration = m.maxOnDuration := rfl
@[simp] theorem Mirror.setCal_calibrate : (m.setCal).calibrate = 0x01 := rfl
@[simp] theorem Mirror.setCal_reset : (m.setCal).reset = m.reset := rfl
end

section
variable (m : Mirror)
@[simp] theorem Mirror.setRst_majorId : (m.setRst).majorId = m.majorId := rfl
@[simp] theorem Mirror.setRst_minorId : (m.setRst).minorId = m.minorId := rfl
@[simp] theorem Mirror.setRst_firmwareVersion : (m.setRst).firmwareVersion = m.firmwareVersion := rfl
@[simp] theorem Mirror.setRst_dsCalibrate : (m.setRst).dsCalibrate = m.dsCalibrate := rfl
@[simp] theorem Mirror.setRst_dsOverflow : (m.setRst).dsOverflow = m.dsOverflow := rfl
@[simp] theorem Mirror.setRst_dsTouch : (m.setRst).dsTouch = m.dsTouch := rfl
@[simp] theorem Mirror.setRst_keyTouch : (m.setRst).keyTouch = m.keyTouch := rfl
@[simp] theorem Mirror.setRst_keySignal : (m.setRst).keySignal = m.keySignal := rfl
@[simp] theorem Mirror.setRst_referenceData : (m.setRst).referenceData = m.referenceData := rfl
@[simp] theorem Mirror.setRst_negativeThreshold : (m.setRst).negativeThreshold = m.negativeThreshold := rfl
@[simp] theorem Mirror.setRst_ave : (m.setRst).ave = m.ave := rfl
@[simp] theorem Mirror.setRst_aks : (m.setRst).aks = m.aks := rfl
@[simp] theorem Mirror.setRst_detectionIntegrator : (m.setRst).detectionIntegrator = m.detectionIntegrator := rfl
@[simp] theorem Mirror.setRst_fastOut : (m.setRst).fastOut = m.fastOut := rfl
@[simp] theorem Mirror.setRst_maxCal : (m.setRst).maxCal = m.maxCal := rfl
@[simp] theorem Mirror.setRst_guardChannel : (m.setRst).guardChannel = m.guardChannel := rfl
@[simp] theorem Mirror.setRst_lowPowerMode : (m.setRst).lowPowerMode = m.lowPowerMode := rfl
@[simp] theorem Mirror.setRst_maxOnDuration : (m.setRst).maxOnDuration = m.maxOnDuration := rfl
@[simp] theorem Mirror.setRst_calibrate : (m.setRst).calibrate = m.calibrate := rfl
@[simp] theorem Mirror.setRst_reset : (m.setRst).reset = 0x01 := rfl
end

end Sys2Proof.Machine
end

