-- ==== Sys2Proof/Laws/Ops.lean ====
section
/-! SUPPORT. One lemma per shared operation saying what it can do; later proofs cite these and do not unfold it. -/

namespace Sys2Proof.Machine

/-! ### The bus port -/

theorem nextReply_scripted (s : State) (r : DeviceReply) (rest : List DeviceReply) (h : s.replies = r :: rest) :
    s.nextReply = r := by simp [State.nextReply, h]

theorem nextReply_steady (s : State) (r : DeviceReply) (h : s.replies = []) (ha : s.repliesAfter = some r) :
    s.nextReply = r := by simp [State.nextReply, h, ha]

/-- The mirror, the phase, the response port, the host's inputs and the free-value counter play no part in a reply. -/
theorem nextReply_congr (s t : State) (hr : t.replies = s.replies) (ha : t.repliesAfter = s.repliesAfter)
    (hh : t.history = s.history) : t.nextReply = s.nextReply := by
  simp [State.nextReply, hr, ha, hh]

@[simp] theorem nextReply_setMirror (s : State) (m : Mirror) : (s.setMirror m).nextReply = s.nextReply := rfl

@[simp] theorem nextReply_listen (s : State) : s.listen.nextReply = s.nextReply := rfl

@[simp] theorem nextReply_take (s : State) (rest : List Word) : (s.take rest).nextReply = s.nextReply := rfl

theorem memRead_eq (addr : Byte) (n : Nat) (s : State) :
    memRead addr n s = (s.nextReply, s.record (readEvent addr n s.nextReply)) := rfl

theorem memWrite_eq (addr v : Byte) (s : State) :
    memWrite addr v s = (s.nextReply, s.record (writeEvent addr v s.nextReply)) := rfl

/-- A reply carried to a transaction of at most 58 bytes has the length asked for. -/
theorem onBus_length (r : DeviceReply) (n : Nat) (hn : n ≤ 58) (bs : List Byte) (h : onBus r n = .ok bs) :
    bs.length = n := by
  cases r with
  | ok bytes => simp only [onBus, BusReply.ok.injEq] at h; subst h; simpa using hn
  | err e => simp [onBus] at h

/-! ### Writes -/

/-- A write-through whose transaction succeeds. -/
theorem writeThrough_ok (r : Reg) (upd : Mirror → Mirror) (s : State) (bs : Vector Byte 58)
    (h : s.nextReply = .ok bs) :
    writeThrough r upd s =
      respond (zext16 ((upd s.mirror).encode r)) false
        ((s.setMirror (upd s.mirror)).record
          (writeEvent (addressOf r) ((upd s.mirror).encode r) s.nextReply)) := by
  simp [writeThrough, memWrite_eq, h]

/-- A write-through whose transaction fails: the mirror keeps the new value. -/
theorem writeThrough_err (r : Reg) (upd : Mirror → Mirror) (s : State) (e : TErr) (h : s.nextReply = .err e) :
    writeThrough r upd s =
      raise (.transport e)
        ((s.setMirror (upd s.mirror)).record
          (writeEvent (addressOf r) ((upd s.mirror).encode r) s.nextReply)) := by
  simp [writeThrough, memWrite_eq, h]

/-- The gate lets a writable register through. -/
theorem gatedWrite_writable (r : Reg) (upd : Mirror → Mirror) (s : State) (h : writable r = true) :
    gatedWrite r upd s = writeThrough r upd s := by simp [gatedWrite, h]

/-- The gate drops a write to a read-only register. -/
theorem gatedWrite_readOnly (r : Reg) (upd : Mirror → Mirror) (s : State) (h : writable r = false) :
    gatedWrite r upd s = drop s := by simp [gatedWrite, h]

/-- An operand that fits goes on to the gate. -/
theorem checkedWrite_fits (rule : DataRule) (v : Byte) (r : Reg) (upd : Mirror → Mirror) (s : State)
    (h : rule.ok v = true) : checkedWrite rule v r upd s = gatedWrite r upd s := by simp [checkedWrite, h]

/-- An operand that does not fit ends the command with ERR_ILLEGAL. -/
theorem checkedWrite_illegal (rule : DataRule) (v : Byte) (r : Reg) (upd : Mirror → Mirror) (s : State)
    (h : rule.ok v = false) : checkedWrite rule v r upd s = raise .illegal s := by simp [checkedWrite, h]

@[simp] theorem dataRule_any_ok (v : Byte) : DataRule.any.ok v = true := rfl

theorem dataRule_bits_ok (n : Nat) (v : Byte) : (DataRule.bits n).ok v = true ↔ v.toNat < 2 ^ n := by
  simp [DataRule.ok]

/-! ### One turn -/

theorem resetNow_nil (s : State) (h : s.resets = []) : s.resetNow = .off := by simp [State.resetNow, h]

theorem resetNow_cons (s : State) (x : ResetInput) (rest : List ResetInput) (h : s.resets = x :: rest) :
    s.resetNow = x := by simp [State.resetNow, h]

/-- What runs next, the reset input aside. -/
theorem nextCommand_cases (s : State) :
    (s.polling = true ∧ nextCommand s = .runs .wcal s.listen) ∨
    (s.polling = false ∧ s.commands = [] ∧ nextCommand s = .ends s.listen) ∨
    (∃ w rest i, s.polling = false ∧ s.commands = w :: rest ∧ decode w = .ok i ∧
      nextCommand s = .runs i (s.listen.take rest)) ∨
    (∃ w rest e, s.polling = false ∧ s.commands = w :: rest ∧ decode w = .error e ∧
      nextCommand s = .ends (raise (rejectionCause e) (s.listen.take rest))) := by
  unfold nextCommand accept
  cases hp : s.polling <;> rcases hc : s.commands with _ | ⟨w, rest⟩ <;> simp
  cases hd : decode w <;> simp

/-- What `fetch` can do: run the next poll of WCAL or a decoded word, reject a word, stay idle, reset, end a poll of
WCAL by reset, or give no step. -/
theorem fetch_cases (s : State) :
    (s.resetNow = .off ∧ s.polling = true ∧ fetch s = .runs .wcal s.listen) ∨
    (∃ w rest i, s.resetNow = .off ∧ s.polling = false ∧ s.commands = w :: rest ∧ decode w = .ok i ∧
      fetch s = .runs i (s.listen.take rest)) ∨
    (∃ w rest e, s.resetNow = .off ∧ s.polling = false ∧ s.commands = w :: rest ∧ decode w = .error e ∧
      fetch s = .ends (raise (rejectionCause e) (s.listen.take rest))) ∨
    (s.resetNow = .off ∧ s.polling = false ∧ s.commands = [] ∧ fetch s = .ends s.listen) ∨
    (s.resetNow ≠ .off ∧ fetch s = .ends (applyReset s.listen)) ∨
    (s.resetNow = .inside ∧ s.polling = true ∧ fetch s = .ends (abandonPoll s.listen)) ∨
    (∃ w rest, s.resetNow = .inside ∧ s.polling = false ∧ s.commands = w :: rest ∧ decode w = .ok .wcal ∧
      fetch s = .ends (abandonPoll (s.listen.take rest))) ∨
    (∃ w rest, s.resetNow = .inside ∧ s.polling = false ∧ s.commands = w :: rest ∧ decode w ≠ .ok .wcal ∧
      fetch s = .noStep) := by
  unfold fetch
  cases hr : s.resetNow <;>
    rcases nextCommand_cases s with ⟨hp, h⟩ | ⟨hp, hc, h⟩ | ⟨w, rest, i, hp, hc, hd, h⟩ | ⟨w, rest, e, hp, hc, hd, h⟩ <;>
    simp_all
  by_cases hi : i = .wcal <;> simp [hi]

/-- A step that runs a command is `exec` of it. -/
theorem step_of_runs (s s1 : State) (i : Instr) (h : fetch s = .runs i s1) : step s = exec i s1 := by
  simp [step, h]

/-- A step that ends in its turn. -/
theorem step_of_ends (s s1 : State) (h : fetch s = .ends s1) : step s = .next s1 := by
  simp [step, h]

/-- A turn without a step. -/
theorem step_of_noStep (s : State) (h : fetch s = .noStep) : step s = .refused .resetInCommand := by
  simp [step, h]

end Sys2Proof.Machine
end

