-- ==== Sys2Proof/Laws/Exec.lean ====
section
/-! SUPPORT. What a command can do, said once: `exec` by shape, the three reads by reply, and one step by what it
runs. Proofs about all commands cite these and unfold no meaning. -/

namespace Sys2Proof.Machine

open Sys2Proof.Safety

/-! ### The reads, by the reply -/

/-- SYNCA whose transaction succeeds (41_sync.md R190). -/
theorem execSynca_ok (s : State) (buf : Vector Byte 58) (h : s.nextReply = .ok buf) :
    execSynca s = .next (respond 0 false
      ((s.record (readEvent 0x00 58 (.ok buf))).setMirror (s.mirror.decodeAll buf))) := by
  simp [execSynca, memRead_eq, h]

/-- SYNCA whose transaction fails. -/
theorem execSynca_err (s : State) (e : TErr) (h : s.nextReply = .err e) :
    execSynca s = .next (raise (.transport e) (s.record (readEvent 0x00 58 (.err e)))) := by
  simp [execSynca, memRead_eq, h]

/-- SYNC1 whose transaction succeeds (R191). -/
theorem execSync1_ok (r : Reg) (s : State) (buf : Vector Byte 58) (h : s.nextReply = .ok buf) :
    execSync1 r s = .next (respond (zext16 ((s.mirror.decode r buf[0]).encode r)) false
      ((s.record (readEvent (addressOf r) 1 (.ok buf))).setMirror (s.mirror.decode r buf[0]))) := by
  simp [execSync1, memRead_eq, h]

/-- SYNC1 whose transaction fails. -/
theorem execSync1_err (r : Reg) (s : State) (e : TErr) (h : s.nextReply = .err e) :
    execSync1 r s = .next (raise (.transport e) (s.record (readEvent (addressOf r) 1 (.err e)))) := by
  simp [execSync1, memRead_eq, h]

/-- A poll of WCAL that reads "calibrating" (44_system.md R300). -/
theorem execWcal_busy (s : State) (buf : Vector Byte 58) (h : s.nextReply = .ok buf) (hb : buf[0].getLsbD 7 = true) :
    execWcal s = .next (keepPolling
      ((s.record (readEvent 0x02 1 (.ok buf))).setMirror (s.mirror.decode .detectionStatus buf[0]))) := by
  have hc : (s.mirror.decode .detectionStatus buf[0]).dsCalibrate = true := hb
  simp [execWcal, memRead_eq, h, hc]

/-- A poll of WCAL that reads the flag clear. -/
theorem execWcal_clear (s : State) (buf : Vector Byte 58) (h : s.nextReply = .ok buf)
    (hb : buf[0].getLsbD 7 = false) :
    execWcal s = .next (respond (zext16 ((s.mirror.decode .detectionStatus buf[0]).encode .detectionStatus)) false
      ((s.record (readEvent 0x02 1 (.ok buf))).setMirror (s.mirror.decode .detectionStatus buf[0]))) := by
  have hc : (s.mirror.decode .detectionStatus buf[0]).dsCalibrate = false := hb
  simp [execWcal, memRead_eq, h, hc]

/-- A poll of WCAL that fails (R303). -/
theorem execWcal_err (s : State) (e : TErr) (h : s.nextReply = .err e) :
    execWcal s = .next (raise (.transport e) (s.record (readEvent 0x02 1 (.err e)))) := by
  simp [execWcal, memRead_eq, h]

/-! ### The writes -/

/-- A typed setter refuses its operand or writes its register through. -/
theorem checkedWrite_cases (rule : DataRule) (v : Byte) (r : Reg) (upd : Mirror → Mirror) (s : State)
    (hw : writable r = true) :
    (rule.ok v = false ∧ checkedWrite rule v r upd s = raise .illegal s) ∨
    (rule.ok v = true ∧ checkedWrite rule v r upd s = writeThrough r upd s) := by
  cases h : rule.ok v
  · exact .inl ⟨rfl, checkedWrite_illegal _ _ _ _ _ h⟩
  · exact .inr ⟨rfl, by rw [checkedWrite_fits _ _ _ _ _ h, gatedWrite_writable _ _ _ hw]⟩

/-- `upd` changes the byte of no read-only register. -/
def KeepsReadOnly (upd : Mirror → Mirror) : Prop :=
  ∀ (m : Mirror) (r : Reg), writable r = false → (upd m).encode r = m.encode r

/-- Decoding a writable register keeps the read-only ones. -/
theorem keepsReadOnly_decode (r : Reg) (b : Byte) (h : writable r = true) : KeepsReadOnly (fun m => m.decode r b) := by
  intro m r' h'
  cases r <;> first | (cases h; done) | (cases r' <;> first | rfl | cases h')

/-! ### Every command, by shape -/

/-- What `exec` can do: answer from the mirror, DEC, refuse a SET operand, write one register through, or read. -/
theorem exec_cases (i : Instr) (s : State) :
    (∃ d f, exec i s = .next (respond d f s) ∧ writtenReg i = none ∧ ∀ x, readOf i x = []) ∨
    (∃ r b, i = .dec r b) ∨
    (i.wf = false ∧ exec i s = .next (raise .illegal s)) ∨
    (∃ r upd, writtenReg i = some r ∧ writable r = true ∧ KeepsReadOnly upd ∧
      exec i s = .next (writeThrough r upd s)) ∨
    i = .synca ∨ (∃ r, i = .sync1 r) ∨ i = .wcal := by
  have set : ∀ (rule : DataRule) (v : Byte) (r : Reg) (upd : Mirror → Mirror), writtenReg i = some r →
      writable r = true → (rule.ok v = false → i.wf = false) → KeepsReadOnly upd →
      exec i s = .next (checkedWrite rule v r upd s) →
      (i.wf = false ∧ exec i s = .next (raise .illegal s)) ∨
      ∃ r upd, writtenReg i = some r ∧ writable r = true ∧ KeepsReadOnly upd ∧
        exec i s = .next (writeThrough r upd s) := by
    intro rule v r upd hr hw hf hk he
    rcases checkedWrite_cases rule v r upd s hw with ⟨h, h'⟩ | ⟨-, h'⟩
    · exact .inl ⟨hf h, he.trans (by rw [h'])⟩
    · exact .inr ⟨r, upd, hr, hw, hk, he.trans (by rw [h'])⟩
  cases i
  case dec r b => exact .inr (.inl ⟨r, b, rfl⟩)
  case synca => simp
  case sync1 r => simp
  case wcal => simp
  case wr r b =>
    cases h : writable r
    · exact .inl ⟨0, true, congrArg Host.Outcome.next (gatedWrite_readOnly _ _ _ h), by simp [writtenReg, h],
        fun x => by simp [readOf]⟩
    · exact .inr (.inr (.inr (.inl ⟨r, _, by simp [writtenReg, h], h, keepsReadOnly_decode r b h,
        congrArg Host.Outcome.next (gatedWrite_writable _ _ _ h)⟩)))
  case setCal =>
    exact .inr (.inr (.inr (.inl ⟨.calibrate, _, rfl, rfl, keepsReadOnly_decode .calibrate 0x01 rfl, rfl⟩)))
  case setRst =>
    exact .inr (.inr (.inr (.inl ⟨.reset, _, rfl, rfl, keepsReadOnly_decode .reset 0x01 rfl, rfl⟩)))
  case setNthr | setAve | setAks | setDi | setFmg | setFo | setMc | setGuard | setLp | setMaxon =>
    rw [← or_assoc (a := _ ∧ _)]
    refine .inr (.inr (.inl (set _ _ _ _ rfl rfl ?_ ?_ rfl)))
    · simp [DataRule.ok, Instr.wf]
    · intro m r h; cases r <;> first | rfl | cases h
  all_goals exact .inl ⟨_, _, rfl, rfl, fun x => by simp [readOf]⟩

end Sys2Proof.Machine
end

