-- ==== Sys2Proof/Laws/PerInstr.lean ====
section
/-! SUPPORT. Statements about every instruction as syntax, one lemma per constructor. `OpcodeRow`: the word of the
instruction matches its row of spec/opcode_table.json, under the row's mask. -/

namespace Sys2Proof.Laws.OpcodeRow

/-- The row's `match` and `mask` in spec/opcode_table.json. -/
def row : Instr → Word × Word
  | .dec _ _ => (0x01000000, 0xFF000000)
  | .enc _ => (0x02000000, 0xFF000000)
  | .addr _ => (0x03000000, 0xFF000000)
  | .synca => (0x10000000, 0xFF000000)
  | .sync1 _ => (0x11000000, 0xFF000000)
  | .wr _ _ => (0x20000000, 0xFF000000)
  | .lpi => (0x31000000, 0xFF000000)
  | .mod => (0x32000000, 0xFF000000)
  | .wcal => (0x40000000, 0xFF000000)
  | .setMajor _ => (0x21000000, 0xFFFF0000)
  | .setMinor _ => (0x21010000, 0xFFFF0000)
  | .setFw _ => (0x21020000, 0xFFFF0000)
  | .setCalibrating _ => (0x21030000, 0xFFFF0000)
  | .setOverflow _ => (0x21040000, 0xFFFF0000)
  | .setTouch _ => (0x21050000, 0xFFFF0000)
  | .setKeys _ => (0x21060000, 0xFFFF0000)
  | .setKeytouch _ _ => (0x21070000, 0xFFFF0000)
  | .setSignal _ _ => (0x21080000, 0xFFFF0000)
  | .setRef _ _ => (0x21090000, 0xFFFF0000)
  | .setNthr _ _ => (0x210A0000, 0xFFFF0000)
  | .setAve _ _ => (0x210B0000, 0xFFFF0000)
  | .setAks _ _ => (0x210C0000, 0xFFFF0000)
  | .setDi _ _ => (0x210D0000, 0xFFFF0000)
  | .setFmg _ => (0x210E0000, 0xFFFF0000)
  | .setFo _ => (0x210F0000, 0xFFFF0000)
  | .setMc _ => (0x21100000, 0xFFFF0000)
  | .setGuard _ => (0x21110000, 0xFFFF0000)
  | .setLp _ => (0x21120000, 0xFFFF0000)
  | .setMaxon _ => (0x21130000, 0xFFFF0000)
  | .setCal => (0x21140000, 0xFFFF0000)
  | .setRst => (0x21150000, 0xFFFF0000)
  | .getMajor => (0x30000000, 0xFFFF0000)
  | .getMinor => (0x30010000, 0xFFFF0000)
  | .getFw => (0x30020000, 0xFFFF0000)
  | .getCalibrating => (0x30030000, 0xFFFF0000)
  | .getOverflow => (0x30040000, 0xFFFF0000)
  | .getTouch => (0x30050000, 0xFFFF0000)
  | .getKeys => (0x30060000, 0xFFFF0000)
  | .getKeytouch _ => (0x30070000, 0xFFFF0000)
  | .getSignal _ => (0x30080000, 0xFFFF0000)
  | .getRef _ => (0x30090000, 0xFFFF0000)
  | .getNthr _ => (0x300A0000, 0xFFFF0000)
  | .getAve _ => (0x300B0000, 0xFFFF0000)
  | .getAks _ => (0x300C0000, 0xFFFF0000)
  | .getDi _ => (0x300D0000, 0xFFFF0000)
  | .getFmg => (0x300E0000, 0xFFFF0000)
  | .getFo => (0x300F0000, 0xFFFF0000)
  | .getMc => (0x30100000, 0xFFFF0000)
  | .getGuard => (0x30110000, 0xFFFF0000)
  | .getLp => (0x30120000, 0xFFFF0000)
  | .getMaxon => (0x30130000, 0xFFFF0000)
  | .getCal => (0x30140000, 0xFFFF0000)
  | .getRst => (0x30150000, 0xFFFF0000)

/-- The word of `i` agrees with the row's `match` on every bit of the row's `mask`. -/
def Statement (i : Instr) : Prop := encode i &&& (row i).2 = (row i).1

/-- A word packed with the row's OP matches a row whose mask is 0xFF000000. -/
theorem of_op (o s k d : Byte) (m : Word) (h : packWord o 0 0 0 = m) : packWord o s k d &&& 0xFF000000#32 = m :=
  (packWord_and_op o s k d).trans h

/-- A word packed with the row's OP and SEL matches a row whose mask is 0xFFFF0000. -/
theorem of_opSel (o s k d : Byte) (m : Word) (h : packWord o s 0 0 = m) : packWord o s k d &&& 0xFFFF0000#32 = m :=
  (packWord_and_opSel o s k d).trans h

theorem dec (r : Reg) (b : Byte) : Statement (.dec r b) := of_op _ _ _ _ _ rfl
theorem enc (r : Reg) : Statement (.enc r) := of_op _ _ _ _ _ rfl
theorem addr (r : Reg) : Statement (.addr r) := of_op _ _ _ _ _ rfl
theorem synca : Statement .synca := of_op _ _ _ _ _ rfl
theorem sync1 (r : Reg) : Statement (.sync1 r) := of_op _ _ _ _ _ rfl
theorem wr (r : Reg) (b : Byte) : Statement (.wr r b) := of_op _ _ _ _ _ rfl
theorem lpi : Statement .lpi := of_op _ _ _ _ _ rfl
theorem mod : Statement .mod := of_op _ _ _ _ _ rfl
theorem wcal : Statement .wcal := of_op _ _ _ _ _ rfl
theorem setMajor (d : Byte) : Statement (.setMajor d) := of_opSel _ _ _ _ _ rfl
theorem setMinor (d : Byte) : Statement (.setMinor d) := of_opSel _ _ _ _ _ rfl
theorem setFw (d : Byte) : Statement (.setFw d) := of_opSel _ _ _ _ _ rfl
theorem setCalibrating (d : Byte) : Statement (.setCalibrating d) := of_opSel _ _ _ _ _ rfl
theorem setOverflow (d : Byte) : Statement (.setOverflow d) := of_opSel _ _ _ _ _ rfl
theorem setTouch (d : Byte) : Statement (.setTouch d) := of_opSel _ _ _ _ _ rfl
theorem setKeys (d : Byte) : Statement (.setKeys d) := of_opSel _ _ _ _ _ rfl
theorem setKeytouch (k : Key) (d : Byte) : Statement (.setKeytouch k d) := of_opSel _ _ _ _ _ rfl
theorem setSignal (k : Key) (d : Byte) : Statement (.setSignal k d) := of_opSel _ _ _ _ _ rfl
theorem setRef (k : Key) (d : Byte) : Statement (.setRef k d) := of_opSel _ _ _ _ _ rfl
theorem setNthr (k : Key) (v : Byte) : Statement (.setNthr k v) := of_opSel _ _ _ _ _ rfl
theorem setAve (k : Key) (v : Byte) : Statement (.setAve k v) := of_opSel _ _ _ _ _ rfl
theorem setAks (k : Key) (v : Byte) : Statement (.setAks k v) := of_opSel _ _ _ _ _ rfl
theorem setDi (k : Key) (v : Byte) : Statement (.setDi k v) := of_opSel _ _ _ _ _ rfl
theorem setFmg (v : Byte) : Statement (.setFmg v) := of_opSel _ _ _ _ _ rfl
theorem setFo (v : Byte) : Statement (.setFo v) := of_opSel _ _ _ _ _ rfl
theorem setMc (v : Byte) : Statement (.setMc v) := of_opSel _ _ _ _ _ rfl
theorem setGuard (v : Byte) : Statement (.setGuard v) := of_opSel _ _ _ _ _ rfl
theorem setLp (v : Byte) : Statement (.setLp v) := of_opSel _ _ _ _ _ rfl
theorem setMaxon (v : Byte) : Statement (.setMaxon v) := of_opSel _ _ _ _ _ rfl
theorem setCal : Statement .setCal := of_opSel _ _ _ _ _ rfl
theorem setRst : Statement .setRst := of_opSel _ _ _ _ _ rfl
theorem getMajor : Statement .getMajor := of_opSel _ _ _ _ _ rfl
theorem getMinor : Statement .getMinor := of_opSel _ _ _ _ _ rfl
theorem getFw : Statement .getFw := of_opSel _ _ _ _ _ rfl
theorem getCalibrating : Statement .getCalibrating := of_opSel _ _ _ _ _ rfl
theorem getOverflow : Statement .getOverflow := of_opSel _ _ _ _ _ rfl
theorem getTouch : Statement .getTouch := of_opSel _ _ _ _ _ rfl
theorem getKeys : Statement .getKeys := of_opSel _ _ _ _ _ rfl
theorem getKeytouch (k : Key) : Statement (.getKeytouch k) := of_opSel _ _ _ _ _ rfl
theorem getSignal (k : Key) : Statement (.getSignal k) := of_opSel _ _ _ _ _ rfl
theorem getRef (k : Key) : Statement (.getRef k) := of_opSel _ _ _ _ _ rfl
theorem getNthr (k : Key) : Statement (.getNthr k) := of_opSel _ _ _ _ _ rfl
theorem getAve (k : Key) : Statement (.getAve k) := of_opSel _ _ _ _ _ rfl
theorem getAks (k : Key) : Statement (.getAks k) := of_opSel _ _ _ _ _ rfl
theorem getDi (k : Key) : Statement (.getDi k) := of_opSel _ _ _ _ _ rfl
theorem getFmg : Statement .getFmg := of_opSel _ _ _ _ _ rfl
theorem getFo : Statement .getFo := of_opSel _ _ _ _ _ rfl
theorem getMc : Statement .getMc := of_opSel _ _ _ _ _ rfl
theorem getGuard : Statement .getGuard := of_opSel _ _ _ _ _ rfl
theorem getLp : Statement .getLp := of_opSel _ _ _ _ _ rfl
theorem getMaxon : Statement .getMaxon := of_opSel _ _ _ _ _ rfl
theorem getCal : Statement .getCal := of_opSel _ _ _ _ _ rfl
theorem getRst : Statement .getRst := of_opSel _ _ _ _ _ rfl

end Sys2Proof.Laws.OpcodeRow
end

