-- ==== Sys2Proof/Laws/Pseudo.lean ====
section
/-! SUPPORT. What the host's sequences of R113 can do: one issued command, the bits of an edited byte, and one ENC, edit
and DEC of MUT. -/

namespace Sys2Proof.Machine

/-- A command that ends with status OK is followed by the rest of the sequence. -/
theorem issue_ok (c : Half → Instr) (rest : Sequence) (s t : State) (h : exec (c (answered s)) s = .next t)
    (hok : endedOk t = true) : issue (c :: rest) s = issue rest t := by simp [issue, h, hok]

/-- A command that does not end with status OK ends the sequence. -/
theorem issue_stops (c : Half → Instr) (rest : Sequence) (s t : State) (h : exec (c (answered s)) s = .next t)
    (hok : endedOk t = false) : issue (c :: rest) s = .next t := by simp [issue, h, hok]

@[simp] theorem endedOk_respond (d : Half) (f : Bool) (s : State) : endedOk (respond d f s) = true := rfl

@[simp] theorem endedOk_raise (c : Cause) (s : State) : endedOk (raise c s) = false := by cases c <;> rfl

@[simp] theorem answered_respond (d : Half) (f : Bool) (s : State) : answered (respond d f s) = d := rfl

/-- The bits of a slice's mask, for every place of a slice in a byte. -/
theorem slice_mask_bits : ∀ lo width : Fin 9, lo.val + width.val ≤ 8 → ∀ i : Fin 8,
    (((1#8 <<< width.val) - 1#8) <<< lo.val).getLsbD i = decide (lo.val ≤ i.val ∧ i.val < lo.val + width.val) := by
  decide

/-- An edited byte, bit by bit: `v` inside the slice, the old byte outside. -/
theorem slice_put_getLsbD (sl : Slice) (b : Byte) (v : Half) (h : sl.lo + sl.width ≤ 8) (i : Nat) (hi : i < 8) :
    (sl.put b v).getLsbD i =
      if sl.lo ≤ i ∧ i < sl.lo + sl.width then v.getLsbD (sl.src + (i - sl.lo)) else b.getLsbD i := by
  have hm : sl.mask.getLsbD i = decide (sl.lo ≤ i ∧ i < sl.lo + sl.width) :=
    slice_mask_bits ⟨sl.lo, by omega⟩ ⟨sl.width, by omega⟩ h ⟨i, hi⟩
  simp only [Slice.put, BitVec.getLsbD_or, BitVec.getLsbD_and, BitVec.getLsbD_not, hm, BitVec.getLsbD_shiftLeft,
    BitVec.getLsbD_setWidth, BitVec.getLsbD_ushiftRight, hi]
  by_cases hc : sl.lo ≤ i ∧ i < sl.lo + sl.width
  · have h1 : ¬ i < sl.lo := by omega
    have h2 : i - sl.lo < 8 := by omega
    simp [hc, h1, h2]
  · simp [hc]

/-- One slice of MUT: ENC answers the byte, DEC stores it edited. -/
theorem issue_edit (sl : Slice) (v : Half) (rest : Sequence) (s : State) :
    issue (always (.enc sl.reg) :: (fun d => .dec sl.reg (sl.put (d.setWidth 8) v)) :: rest) s =
      issue rest (respond (zext16 ((s.mirror.decode sl.reg (sl.put (s.mirror.encode sl.reg) v)).encode sl.reg)) false
        ((respond (zext16 (s.mirror.encode sl.reg)) false s).setMirror
          (s.mirror.decode sl.reg (sl.put (s.mirror.encode sl.reg) v)))) := by
  have e : ∀ b : Byte, (zext16 b).setWidth 8 = b := by intro b; simp [zext16]
  rw [issue_ok _ _ s _ rfl rfl, issue_ok _ _ _ _ rfl rfl, answered_respond, e]
  rfl

end Sys2Proof.Machine
end

