-- ==== Sys2Proof/Tests/Slice0.lean ====
section
/-! SUPPORT. Tests of the model, every expected result from spec/95_test_vectors.md or from a numbered rule, and for
every obligation with hypotheses a witness that meets them. -/

namespace Sys2Proof.Tests

open Sys2Proof Sys2Proof.Machine Sys2Proof.Safety

/-! ### Small states, and what a test looks at -/

/-- A reply whose every byte is `b`: to a one-byte read, the byte `b`; to a write, success. -/
def bytes (b : Byte) : DeviceReply := .ok (Vector.replicate 58 b)

/-- RCD after reset, with these replies to come. -/
def ready (replies : List DeviceReply) : State := { State.reset with replies := replies }

/-- RCD with this mirror; every write to come succeeds. -/
def holding (m : Mirror) : State := { State.reset with mirror := m, repliesAfter := some (bytes 0) }

/-- Status, data and flag of the response on the port. -/
def respOf (o : Host.Outcome State Fault Refusal) : Option (Status × Half × Bool) :=
  match o with
  | .next t => t.response.map fun r => (r.status, r.data, r.flag)
  | .fault _ => none
  | .refused _ => none

/-- The bytes sent and the number asked for, of every bus event. -/
def busOf (o : Host.Outcome State Fault Refusal) : List (BusKind × List Byte × Nat) :=
  match o with
  | .next t => t.history.map fun e => (e.kind, e.wbytes, e.rlen)
  | .fault _ => []
  | .refused _ => []

/-- The mirror afterwards. -/
def mirrorOf (o : Host.Outcome State Fault Refusal) : Option Mirror :=
  match o with
  | .next t => some t.mirror
  | .fault _ => none
  | .refused _ => none

/-- One step of RCD to which the host presents `w`. -/
def run1 (w : Word) (s : State) : Host.Outcome State Fault Refusal := step (present w s)

/-- A transaction's event without its device and reply. -/
def rd (a : Byte) (n : Nat) : BusKind × List Byte × Nat := (.writeThenRead, [a], n)
def wr (a v : Byte) : BusKind × List Byte × Nat := (.write, [a, v], 0)

/-- The 58 bytes of V40. -/
def fixture : Vector Byte 58 :=
  #v[0x2E, 0x15, 0xC1, 0xD5,
     0x01, 0x23, 0x04, 0x56, 0x07, 0x89, 0x0A, 0xBC, 0x0D, 0xEF, 0x12, 0x34, 0xFF, 0xFE,
     0x01, 0x00, 0x02, 0x00, 0x03, 0x00, 0x04, 0x00, 0x05, 0x00, 0x06, 0x00, 0x80, 0x01,
     0x10, 0x11, 0x12, 0x13, 0x14, 0x15, 0x16,
     0x21, 0x42, 0x83, 0xFC, 0x00, 0x07, 0xFE,
     0x01, 0x02, 0x03, 0x04, 0x05, 0x06, 0xFF,
     0xF7, 0x00, 0x02, 0x00, 0x00]

/-- The mirror V40 gives after SYNCA, written from V40's list of fields. -/
def fixtureMirror : Mirror where
  majorId := 0x2
  minorId := 0xE
  firmwareVersion := 0x15
  dsCalibrate := true
  dsOverflow := true
  dsTouch := true
  keyTouch := 0b1010101
  keySignal := #v[0x0123, 0x0456, 0x0789, 0x0ABC, 0x0DEF, 0x1234, 0xFFFE]
  referenceData := #v[0x0100, 0x0200, 0x0300, 0x0400, 0x0500, 0x0600, 0x8001]
  negativeThreshold := #v[0x10, 0x11, 0x12, 0x13, 0x14, 0x15, 0x16]
  ave := #v[8, 16, 32, 63, 0, 1, 63]
  aks := #v[1, 2, 3, 0, 0, 3, 2]
  detectionIntegrator := #v[1, 2, 3, 4, 5, 6, 255]
  fastOut := true
  maxCal := true
  guardChannel := 7
  lowPowerMode := 0
  maxOnDuration := 2
  calibrate := 0
  reset := 0

/-! ### Well-formedness: an ill-formed term for each check (R107) -/

theorem test_wf_refuses_setAve : Instr.wf (.setAve 2 64) = false := by decide
theorem test_wf_refuses_setAks : Instr.wf (.setAks 0 4) = false := by decide
theorem test_wf_refuses_setFmg : Instr.wf (.setFmg 0x40) = false := by decide
theorem test_wf_refuses_setFo : Instr.wf (.setFo 2) = false := by decide
theorem test_wf_refuses_setMc : Instr.wf (.setMc 2) = false := by decide
theorem test_wf_refuses_setGuard : Instr.wf (.setGuard 16) = false := by decide
theorem test_wf_limits : ([.setAve 2 63, .setAks 0 3, .setFmg 0x3F, .setFo 1, .setMc 1, .setGuard 15] : List Instr).all
    Instr.wf = true := by decide

/-! ### Decoding: V20's word for every command -/

theorem test_decode_dec : decode 0x01090183 = .ok (.dec (.aveAks 1) 0x83) := rfl
theorem test_decode_enc : decode 0x02090100 = .ok (.enc (.aveAks 1)) := rfl
theorem test_decode_addr : decode 0x03090100 = .ok (.addr (.aveAks 1)) := rfl
theorem test_decode_synca : decode 0x10000000 = .ok .synca := rfl
theorem test_decode_sync1 : decode 0x11090100 = .ok (.sync1 (.aveAks 1)) := rfl
theorem test_decode_wr : decode 0x20090183 = .ok (.wr (.aveAks 1) 0x83) := rfl
theorem test_decode_setMajor : decode 0x21000001 = .ok (.setMajor 0x01) := rfl
theorem test_decode_setMinor : decode 0x21010001 = .ok (.setMinor 0x01) := rfl
theorem test_decode_setFw : decode 0x21020001 = .ok (.setFw 0x01) := rfl
theorem test_decode_setCalibrating : decode 0x21030001 = .ok (.setCalibrating 0x01) := rfl
theorem test_decode_setOverflow : decode 0x21040001 = .ok (.setOverflow 0x01) := rfl
theorem test_decode_setTouch : decode 0x21050001 = .ok (.setTouch 0x01) := rfl
theorem test_decode_setKeys : decode 0x21060001 = .ok (.setKeys 0x01) := rfl
theorem test_decode_setKeytouch : decode 0x21070101 = .ok (.setKeytouch 1 0x01) := rfl
theorem test_decode_setSignal : decode 0x21080101 = .ok (.setSignal 1 0x01) := rfl
theorem test_decode_setRef : decode 0x21090101 = .ok (.setRef 1 0x01) := rfl
theorem test_decode_setNthr : decode 0x210A011E = .ok (.setNthr 1 0x1E) := rfl
theorem test_decode_setAve : decode 0x210B0110 = .ok (.setAve 1 0x10) := rfl
theorem test_decode_setAks : decode 0x210C0102 = .ok (.setAks 1 0x02) := rfl
theorem test_decode_setDi : decode 0x210D0106 = .ok (.setDi 1 0x06) := rfl
theorem test_decode_setFmg : decode 0x210E0037 = .ok (.setFmg 0x37) := rfl
theorem test_decode_setFo : decode 0x210F0001 = .ok (.setFo 0x01) := rfl
theorem test_decode_setMc : decode 0x21100001 = .ok (.setMc 0x01) := rfl
theorem test_decode_setGuard : decode 0x21110007 = .ok (.setGuard 0x07) := rfl
theorem test_decode_setLp : decode 0x21120005 = .ok (.setLp 0x05) := rfl
theorem test_decode_setMaxon : decode 0x21130002 = .ok (.setMaxon 0x02) := rfl
theorem test_decode_setCal : decode 0x21140000 = .ok .setCal := rfl
theorem test_decode_setRst : decode 0x21150000 = .ok .setRst := rfl
theorem test_decode_getMajor : decode 0x30000000 = .ok .getMajor := rfl
theorem test_decode_getMinor : decode 0x30010000 = .ok .getMinor := rfl
theorem test_decode_getFw : decode 0x30020000 = .ok .getFw := rfl
theorem test_decode_getCalibrating : decode 0x30030000 = .ok .getCalibrating := rfl
theorem test_decode_getOverflow : decode 0x30040000 = .ok .getOverflow := rfl
theorem test_decode_getTouch : decode 0x30050000 = .ok .getTouch := rfl
theorem test_decode_getKeys : decode 0x30060000 = .ok .getKeys := rfl
theorem test_decode_getKeytouch : decode 0x30070100 = .ok (.getKeytouch 1) := rfl
theorem test_decode_getSignal : decode 0x30080100 = .ok (.getSignal 1) := rfl
theorem test_decode_getRef : decode 0x30090100 = .ok (.getRef 1) := rfl
theorem test_decode_getNthr : decode 0x300A0100 = .ok (.getNthr 1) := rfl
theorem test_decode_getAve : decode 0x300B0100 = .ok (.getAve 1) := rfl
theorem test_decode_getAks : decode 0x300C0100 = .ok (.getAks 1) := rfl
theorem test_decode_getDi : decode 0x300D0100 = .ok (.getDi 1) := rfl
theorem test_decode_getFmg : decode 0x300E0000 = .ok .getFmg := rfl
theorem test_decode_getFo : decode 0x300F0000 = .ok .getFo := rfl
theorem test_decode_getMc : decode 0x30100000 = .ok .getMc := rfl
theorem test_decode_getGuard : decode 0x30110000 = .ok .getGuard := rfl
theorem test_decode_getLp : decode 0x30120000 = .ok .getLp := rfl
theorem test_decode_getMaxon : decode 0x30130000 = .ok .getMaxon := rfl
theorem test_decode_getCal : decode 0x30140000 = .ok .getCal := rfl
theorem test_decode_getRst : decode 0x30150000 = .ok .getRst := rfl
theorem test_decode_lpi : decode 0x31000000 = .ok .lpi := rfl
theorem test_decode_mod : decode 0x32000000 = .ok .mod := rfl
theorem test_decode_wcal : decode 0x40000000 = .ok .wcal := rfl

/-! ### Encoding: the same words, each written by the encoder -/

theorem test_encode_words :
    encode (.dec (.aveAks 1) 0x83) = 0x01090183 ∧ encode (.enc (.aveAks 1)) = 0x02090100 ∧
    encode (.addr (.aveAks 1)) = 0x03090100 ∧ encode .synca = 0x10000000 ∧ encode (.sync1 (.aveAks 1)) = 0x11090100 ∧
    encode (.wr (.aveAks 1) 0x83) = 0x20090183 ∧ encode (.setAve 1 16) = 0x210B0110 ∧ encode .setRst = 0x21150000 ∧
    encode (.getSignal 1) = 0x30080100 ∧ encode .lpi = 0x31000000 ∧ encode .mod = 0x32000000 ∧
    encode .wcal = 0x40000000 := by decide

/-! ### Group numbers (R102): DEC's word with every group, key 6 where the group has keys -/

theorem test_decode_groups :
    decode 0x010000A5 = .ok (.dec .chipId 0xA5) ∧ decode 0x010100A5 = .ok (.dec .firmwareVersion 0xA5) ∧
    decode 0x010200A5 = .ok (.dec .detectionStatus 0xA5) ∧ decode 0x010300A5 = .ok (.dec .keyStatus 0xA5) ∧
    decode 0x010406A5 = .ok (.dec (.keySignalMs 6) 0xA5) ∧ decode 0x010506A5 = .ok (.dec (.keySignalLs 6) 0xA5) ∧
    decode 0x010606A5 = .ok (.dec (.referenceDataMs 6) 0xA5) ∧
    decode 0x010706A5 = .ok (.dec (.referenceDataLs 6) 0xA5) ∧
    decode 0x010806A5 = .ok (.dec (.negativeThreshold 6) 0xA5) ∧ decode 0x010906A5 = .ok (.dec (.aveAks 6) 0xA5) ∧
    decode 0x010A06A5 = .ok (.dec (.detectionIntegrator 6) 0xA5) ∧ decode 0x010B00A5 = .ok (.dec .foMcGuard 0xA5) ∧
    decode 0x010C00A5 = .ok (.dec .lowPowerMode 0xA5) ∧ decode 0x010D00A5 = .ok (.dec .maxOnDuration 0xA5) ∧
    decode 0x010E00A5 = .ok (.dec .calibrate 0xA5) ∧ decode 0x010F00A5 = .ok (.dec .reset 0xA5) :=
  ⟨rfl, rfl, rfl, rfl, rfl, rfl, rfl, rfl, rfl, rfl, rfl, rfl, rfl, rfl, rfl, rfl⟩

/-! ### Words that are no command: V21, V22, V23 -/

/-- How the decoder answers for a word it rejects. -/
def causeOf (w : Word) : Option Cause :=
  match decode w with
  | .ok _ => none
  | .error e => some (rejectionCause e)

theorem test_illegal_words : ([0x00000000, 0xFFFFFFFF, 0x04000000, 0x01100000, 0x02000100, 0x02040001, 0x10000001, 0x10010000,
    0x21160000, 0x30160000, 0x30000001, 0x210B0240, 0x210C0004, 0x210E0040, 0x210F0002, 0x21110010,
    0x21140001, 0x21140100, 0x21000100, 0x31000100, 0x40000001, 0x20100900, 0x210B0940] :
    List Word).all (fun w => causeOf w == some .illegal) = true := by
  decide

theorem test_key_range_words : ([0x30070700, 0x11040700, 0x20040900, 0x21080700, 0x0309FF00, 0x210A0714] :
    List Word).all (fun w => causeOf w == some .keyRange) = true := by
  decide

theorem test_illegal_responds : respOf (run1 0x210B0240 (ready [])) = some (.errIllegal, 0, false) ∧
    busOf (run1 0x210B0240 (ready [])) = [] := by decide

theorem test_key_range_responds : respOf (run1 0x20040900 (ready [])) = some (.errKey, 0, false) ∧
    mirrorOf (run1 0x20040900 (ready [])) = some State.reset.mirror := by decide

/-! ### The host's two questions: the table's word decoded, and run as the first command after reset -/

theorem test_tableWord : decodeTableWord 32 0x10000000 = some .synca ∧ decodeTableWord 32 0x21140000 = some .setCal ∧
    decodeTableWord 32 0 = none := by decide

theorem test_withFetchWord : respOf (step (State.reset.withFetchWord 32 0x30000000)) = some (.ok, 0x0002, false) := by
  decide

/-! ### Reset (V5, V32, V70) -/

theorem test_reset_image : (List.finRange 58).map State.reset.mirror.image =
    [0x2E, 0x15, 0x00, 0x00] ++ List.replicate 28 0x00 ++ List.replicate 7 0x14 ++ List.replicate 7 0x21 ++
    List.replicate 7 0x04 ++ [0x00, 0x02, 0xB4, 0x00, 0x00] := by decide

theorem test_reset_input : mirrorOf (step { holding fixtureMirror with resets := [.between] }) = some State.reset.mirror ∧
    busOf (step { holding fixtureMirror with resets := [.between] }) = [] := by decide

/-- R341: reset between two polls is taken though a word waits, and no further poll is issued. -/
theorem test_reset_while_a_word_waits :
    mirrorOf (step { holding fixtureMirror with polling := true, commands := [0x10000000], resets := [.between] })
      = some State.reset.mirror ∧
    busOf (step { holding fixtureMirror with polling := true, commands := [0x10000000], resets := [.between] }) = [] := by
  decide

/-- R341: reset inside a poll whose reply reads clear: the read is issued, WCAL gives no response. -/
theorem test_reset_inside_a_poll :
    respOf (step { ready [bytes 0x00] with commands := [0x40000000], resets := [.inside] }) = none ∧
    busOf (step { ready [bytes 0x00] with commands := [0x40000000], resets := [.inside] }) = [rd 0x02 1] := by decide

/-- R341: no step for a reset inside another command. -/
theorem test_reset_inside_a_command :
    step { ready [] with commands := [0x30000000], resets := [.inside] } = .refused .resetInCommand := rfl

/-! ### Pseudo-instructions (R113) -/

/-- P6, steps 4 to 6: RD.SIGNAL[2]. -/
theorem test_rd_signal : respOf (issue (expandRd (.signal 2)) (ready [bytes 0x02, bytes 0x9A])) =
    some (.ok, 0x029A, false) := by decide

/-- MUT.GUARD keeps V9's fast_out 0 and max_cal 1 and puts 3 for 6, with no bus event. -/
theorem test_mut_guard :
    (mirrorOf (issue (expandMut .guard 3) (holding (fixtureMirror.decode .foMcGuard 0x16)))).map
      (fun m => m.encode .foMcGuard) = some 0x13 ∧
    busOf (issue (expandMut .guard 3) (holding (fixtureMirror.decode .foMcGuard 0x16))) = [] := by decide

/-! ### The codec family -/

/-- V30: KeySignalLs keeps the MS half. -/
theorem test_dec_half : respOf (run1 0x01050200 (holding fixtureMirror)) = some (.ok, 0x0000, false) ∧
    (mirrorOf (run1 0x01050200 (holding fixtureMirror))).map (fun m => m.keySignal[2]) = some 0x0700 := by decide

/-- V30: FoMcGuard drops bits 7:6; no bus event. -/
theorem test_dec_masks : respOf (run1 0x010B00F7 (ready [])) = some (.ok, 0x0037, false) ∧
    busOf (run1 0x010B00F7 (ready [])) = [] := by decide

/-- V32 and V40. -/
theorem test_enc : respOf (run1 0x02000000 (ready [])) = some (.ok, 0x002E, false) ∧
    respOf (run1 0x020B0000 (holding fixtureMirror)) = some (.ok, 0x0037, false) := by decide

/-- V33. -/
theorem test_addr : respOf (run1 0x03070600 (ready [])) = some (.ok, 0x001F, false) ∧
    respOf (run1 0x030A0600 (ready [])) = some (.ok, 0x0034, false) := by decide

/-! ### The synchronisation family -/

/-- V40. -/
theorem test_synca : mirrorOf (run1 0x10000000 (ready [.ok fixture])) = some fixtureMirror ∧
    busOf (run1 0x10000000 (ready [.ok fixture])) = [rd 0x00 58] := by decide

/-- V41. -/
theorem test_synca_fails : respOf (run1 0x10000000 (ready [.err 5])) = some (.errTransport, 0, false) ∧
    mirrorOf (run1 0x10000000 (ready [.err 5])) = some State.reset.mirror := by decide

/-- V42. -/
theorem test_sync1_masks : respOf (run1 0x11020000 (ready [bytes 0xBF])) = some (.ok, 0x0081, false) ∧
    busOf (run1 0x11020000 (ready [bytes 0xBF])) = [rd 0x02 1] := by decide

/-- V12. -/
theorem test_sync1_one : respOf (run1 0x11080600 (ready [bytes 0x33])) = some (.ok, 0x0033, false) ∧
    busOf (run1 0x11080600 (ready [bytes 0x33])) = [rd 0x26 1] := by decide

/-! ### Writes -/

/-- V50: the reserved bits are not sent. -/
theorem test_wr_masks : respOf (run1 0x200B00FF (ready [bytes 0])) = some (.ok, 0x003F, false) ∧
    busOf (run1 0x200B00FF (ready [bytes 0])) = [wr 0x35 0x3F] := by decide

/-- V6: the gate. -/
theorem test_wr_dropped : respOf (run1 0x20050655 (holding fixtureMirror)) = some (.ok, 0, true) ∧
    busOf (run1 0x20050655 (holding fixtureMirror)) = [] := by decide

/-! V6: the ten read-only setters. -/

theorem test_setMajor_dropped : respOf (run1 0x2100000F (holding fixtureMirror)) = some (.ok, 0, true) ∧
    mirrorOf (run1 0x2100000F (holding fixtureMirror)) = some fixtureMirror := by decide
theorem test_setMinor_dropped : respOf (run1 0x21010000 (holding fixtureMirror)) = some (.ok, 0, true) ∧
    mirrorOf (run1 0x21010000 (holding fixtureMirror)) = some fixtureMirror := by decide
theorem test_setFw_dropped : respOf (run1 0x210200FF (holding fixtureMirror)) = some (.ok, 0, true) ∧
    mirrorOf (run1 0x210200FF (holding fixtureMirror)) = some fixtureMirror := by decide
theorem test_setCalibrating_dropped : respOf (run1 0x21030001 (holding fixtureMirror)) = some (.ok, 0, true) ∧
    mirrorOf (run1 0x21030001 (holding fixtureMirror)) = some fixtureMirror := by decide
theorem test_setOverflow_dropped : respOf (run1 0x21040001 (holding fixtureMirror)) = some (.ok, 0, true) ∧
    mirrorOf (run1 0x21040001 (holding fixtureMirror)) = some fixtureMirror := by decide
theorem test_setTouch_dropped : respOf (run1 0x21050001 (holding fixtureMirror)) = some (.ok, 0, true) ∧
    mirrorOf (run1 0x21050001 (holding fixtureMirror)) = some fixtureMirror := by decide
theorem test_setKeys_dropped : respOf (run1 0x2106007F (holding fixtureMirror)) = some (.ok, 0, true) ∧
    mirrorOf (run1 0x2106007F (holding fixtureMirror)) = some fixtureMirror := by decide
theorem test_setKeytouch_dropped : respOf (run1 0x21070201 (holding fixtureMirror)) = some (.ok, 0, true) ∧
    mirrorOf (run1 0x21070201 (holding fixtureMirror)) = some fixtureMirror := by decide
theorem test_setSignal_dropped : respOf (run1 0x2108067F (holding fixtureMirror)) = some (.ok, 0, true) ∧
    mirrorOf (run1 0x2108067F (holding fixtureMirror)) = some fixtureMirror := by decide
theorem test_setRef_dropped : respOf (run1 0x21090000 (holding fixtureMirror)) = some (.ok, 0, true) ∧
    mirrorOf (run1 0x21090000 (holding fixtureMirror)) = some fixtureMirror := by decide

/-! V51: the twelve that write. -/

theorem test_setNthr : respOf (run1 0x210A031E (ready [bytes 0])) = some (.ok, 0x1E, false) ∧
    busOf (run1 0x210A031E (ready [bytes 0])) = [wr 0x23 0x1E] := by decide
theorem test_setDi : respOf (run1 0x210D060A (ready [bytes 0])) = some (.ok, 0x0A, false) ∧
    busOf (run1 0x210D060A (ready [bytes 0])) = [wr 0x34 0x0A] := by decide
theorem test_setAve : respOf (run1 0x210B0210 (ready [bytes 0])) = some (.ok, 0x41, false) ∧
    busOf (run1 0x210B0210 (ready [bytes 0])) = [wr 0x29 0x41] := by decide
theorem test_setAks : respOf (run1 0x210C0003 (ready [bytes 0])) = some (.ok, 0x23, false) ∧
    busOf (run1 0x210C0003 (ready [bytes 0])) = [wr 0x27 0x23] := by decide
theorem test_setFmg : respOf (run1 0x210E0037 (ready [bytes 0])) = some (.ok, 0x37, false) ∧
    busOf (run1 0x210E0037 (ready [bytes 0])) = [wr 0x35 0x37] := by decide
theorem test_setFo : respOf (run1 0x210F0001 (ready [bytes 0])) = some (.ok, 0x20, false) ∧
    busOf (run1 0x210F0001 (ready [bytes 0])) = [wr 0x35 0x20] := by decide
theorem test_setMc : respOf (run1 0x21100001 (ready [bytes 0])) = some (.ok, 0x10, false) ∧
    busOf (run1 0x21100001 (ready [bytes 0])) = [wr 0x35 0x10] := by decide
theorem test_setGuard : respOf (run1 0x2111000F (ready [bytes 0])) = some (.ok, 0x0F, false) ∧
    busOf (run1 0x2111000F (ready [bytes 0])) = [wr 0x35 0x0F] := by decide
theorem test_setLp : respOf (run1 0x21120005 (ready [bytes 0])) = some (.ok, 0x05, false) ∧
    busOf (run1 0x21120005 (ready [bytes 0])) = [wr 0x36 0x05] := by decide
theorem test_setMaxon : respOf (run1 0x21130000 (ready [bytes 0])) = some (.ok, 0x00, false) ∧
    busOf (run1 0x21130000 (ready [bytes 0])) = [wr 0x37 0x00] := by decide
theorem test_setCal : respOf (run1 0x21140000 (ready [bytes 0])) = some (.ok, 0x01, false) ∧
    busOf (run1 0x21140000 (ready [bytes 0])) = [wr 0x38 0x01] := by decide
theorem test_setRst : respOf (run1 0x21150000 (ready [bytes 0])) = some (.ok, 0x01, false) ∧
    busOf (run1 0x21150000 (ready [bytes 0])) = [wr 0x39 0x01] := by decide

/-- V52: the mirror keeps the value of a write that failed. -/
theorem test_write_fails : respOf (run1 0x210A0030 (ready [.err 9])) = some (.errTransport, 0, false) ∧
    (mirrorOf (run1 0x210A0030 (ready [.err 9]))).map (fun m => m.negativeThreshold[0]) = some 0x30 := by decide

/-- V9: SET.GUARD keeps fast_out and max_cal (V40's, both 1). -/
theorem test_setGuard_keeps : busOf (run1 0x21110003 (holding fixtureMirror)) = [wr 0x35 0x33] := by decide

/-! ### Getters after V40 (V55), and V56, V57 -/

theorem test_getMajor : respOf (run1 0x30000000 (holding fixtureMirror)) = some (.ok, 2, false) := by decide
theorem test_getMinor : respOf (run1 0x30010000 (holding fixtureMirror)) = some (.ok, 0xE, false) := by decide
theorem test_getFw : respOf (run1 0x30020000 (holding fixtureMirror)) = some (.ok, 0x15, false) := by decide
theorem test_getCalibrating : respOf (run1 0x30030000 (holding fixtureMirror)) = some (.ok, 1, false) := by decide
theorem test_getOverflow : respOf (run1 0x30040000 (holding fixtureMirror)) = some (.ok, 1, false) := by decide
theorem test_getTouch : respOf (run1 0x30050000 (holding fixtureMirror)) = some (.ok, 1, false) := by decide
theorem test_getKeys : respOf (run1 0x30060000 (holding fixtureMirror)) = some (.ok, 0x55, false) := by decide
theorem test_getKeytouch : respOf (run1 0x30070400 (holding fixtureMirror)) = some (.ok, 1, false) := by decide
theorem test_getSignal : respOf (run1 0x30080500 (holding fixtureMirror)) = some (.ok, 0x1234, false) := by decide
theorem test_getRef : respOf (run1 0x30090600 (holding fixtureMirror)) = some (.ok, 0x8001, false) := by decide
theorem test_getNthr : respOf (run1 0x300A0000 (holding fixtureMirror)) = some (.ok, 0x10, false) := by decide
theorem test_getAve : respOf (run1 0x300B0300 (holding fixtureMirror)) = some (.ok, 0x3F, false) := by decide
theorem test_getAks : respOf (run1 0x300C0300 (holding fixtureMirror)) = some (.ok, 0, false) := by decide
theorem test_getDi : respOf (run1 0x300D0600 (holding fixtureMirror)) = some (.ok, 0xFF, false) := by decide
theorem test_getFmg : respOf (run1 0x300E0000 (holding fixtureMirror)) = some (.ok, 0x37, false) := by decide
theorem test_getFo : respOf (run1 0x300F0000 (holding fixtureMirror)) = some (.ok, 1, false) := by decide
theorem test_getMc : respOf (run1 0x30100000 (holding fixtureMirror)) = some (.ok, 1, false) := by decide
theorem test_getGuard : respOf (run1 0x30110000 (holding fixtureMirror)) = some (.ok, 7, true) := by decide
theorem test_getLp : respOf (run1 0x30120000 (holding fixtureMirror)) = some (.ok, 0, false) := by decide
theorem test_getMaxon : respOf (run1 0x30130000 (holding fixtureMirror)) = some (.ok, 2, false) := by decide
theorem test_getCal : respOf (run1 0x30140000 (holding fixtureMirror)) = some (.ok, 0, false) := by decide
theorem test_getRst : respOf (run1 0x30150000 (holding fixtureMirror)) = some (.ok, 0, false) := by decide
theorem test_getKeytouch_5 : respOf (run1 0x30070500 (holding fixtureMirror)) = some (.ok, 0, false) := by decide
theorem test_getGuard_flag : ([(0, false), (6, false), (7, true), (8, true), (15, true)] : List (BitVec 4 × Bool)).all
    (fun p => respOf (run1 0x30110000 (holding { fixtureMirror with guardChannel := p.1 })) ==
      some (.ok, p.1.setWidth 16, p.2)) = true := by decide
theorem test_lpi : ([(0, 8), (1, 8), (2, 16), (5, 40), (255, 2040)] : List (Byte × Half)).all
    (fun p => respOf (run1 0x31000000 (holding { fixtureMirror with lowPowerMode := p.1 })) ==
      some (.ok, p.2, false)) = true := by decide
theorem test_mod : ([(0, 0), (1, 160), (2, 320), (180, 28800), (255, 40800)] : List (Byte × Half)).all
    (fun p => respOf (run1 0x32000000 (holding { fixtureMirror with maxOnDuration := p.1 })) ==
      some (.ok, p.2, p.1 == 0)) = true := by decide

/-! ### WCAL: one step is one poll (V60, V61, V62) -/

/-- V60: it reads although the mirror's flag is clear. -/
theorem test_wcal_clear : respOf (run1 0x40000000 (ready [bytes 0x7F])) = some (.ok, 0x0041, false) ∧
    busOf (run1 0x40000000 (ready [bytes 0x7F])) = [rd 0x02 1] := by decide

/-- V61: no response while the flag reads 1. -/
theorem test_wcal_busy : respOf (run1 0x40000000 (ready [bytes 0x81])) = none ∧
    (mirrorOf (run1 0x40000000 (ready [bytes 0x81]))).map (fun m => (m.dsCalibrate, m.dsTouch)) = some (true, true) := by
  decide

/-! ### Witnesses: states and operands that meet the hypotheses of each obligation -/

/-- WCAL after one poll that read "calibrating". -/
def waiting : State := { State.reset with polling := true }

theorem witness_DecodeInvertsEncode : Instr.wf (.setAve 6 63) = true ∧ Instr.wf (.wr (.aveAks 6) 0xFF) = true := by decide

theorem witness_EncodeInvertsDecode : decode 0x210B063F = .ok (.setAve 6 63) := rfl

/-- R109's three ways to be illegal: OP and SEL, KEY, DATA. -/
theorem witness_IllegalWordsEndWithErrIllegal :
    Presents (present 0x04000000 State.reset) 0x04000000 [] ∧ IllegalWord 0x04000000 ∧ IllegalWord 0x02000100 ∧
    IllegalWord 0x210B0240 ∧ ¬ IllegalWord 0x210B023F := by
  refine ⟨⟨rfl, rfl, rfl⟩, ?_, ?_, ?_, ?_⟩ <;>
  simp [IllegalWord, SelInRange, IsGroupOp, IsFieldOp, IsSoloOp, TakesKey, DataInRange, setDataMax,
    opField, selField, keyField, dataField]

theorem witness_KeyAboveSixEndsWithErrKey :
    Presents (present 0x30070700 State.reset) 0x30070700 [] ∧ KeyRangeWord 0x30070700 ∧
    TakesKey (opField 0x30070700).toNat (selField 0x30070700).toNat ∧ 7 ≤ (keyField 0x30070700).toNat := by
  refine ⟨⟨rfl, rfl, rfl⟩, ?_, ?_, ?_⟩ <;>
  simp [KeyRangeWord, IllegalWord, SelInRange, IsGroupOp, IsFieldOp, IsSoloOp, TakesKey, DataInRange, setDataMax,
    opField, selField, keyField, dataField]

theorem witness_StepRunsDecodedCommand :
    Presents (present 0x10000000 State.reset) 0x10000000 [] ∧ decode 0x10000000 = .ok .synca := ⟨⟨rfl, rfl, rfl⟩, rfl⟩

theorem witness_StepWhilePollingPollsAgain :
    ({ waiting with commands := [0x10000000] } : State).polling = true ∧
    ({ waiting with commands := [0x10000000] } : State).resetNow = .off := ⟨rfl, rfl⟩

/-- Between two polls with a word waiting, and with nothing executing. -/
theorem witness_ResetInputRestoresTheMirrorOnly :
    ({ waiting with commands := [0x10000000], resets := [.between] } : State).resetNow = .between ∧
    ({ State.reset with resets := [.inside] } : State).resetNow = .inside ∧
    ({ State.reset with resets := [.inside] } : State).polling = false ∧
    ({ State.reset with resets := [.inside] } : State).commands = [] := ⟨rfl, rfl, rfl, rfl⟩

/-- A later poll, and the first one. -/
theorem witness_ResetInAPollEndsWcalWithoutAResponse :
    ({ waiting with resets := [.inside] } : State).resetNow = .inside ∧
    ({ waiting with resets := [.inside] } : State).polling = true ∧
    ({ State.reset with commands := [0x40000000], resets := [.inside] } : State).polling = false ∧
    ({ State.reset with commands := [0x40000000], resets := [.inside] } : State).commands = 0x40000000 :: [] ∧
    decode 0x40000000 = .ok .wcal := ⟨rfl, rfl, rfl, rfl, rfl⟩

theorem witness_IdleStepOnlyClearsTheResponse :
    State.reset.polling = false ∧ State.reset.commands = [] ∧ State.reset.resetNow = .off := ⟨rfl, rfl, rfl⟩

/-- A step that is allowed, a reset inside a poll, and a reset inside SYNCA, which is not. -/
theorem witness_OnlyAResetInMidCommandStopsAStep :
    ResetAllowed State.reset ∧ ResetAllowed { waiting with resets := [.inside] } ∧
    ¬ ResetAllowed { State.reset with commands := [0x10000000], resets := [.inside] } := by
  refine ⟨fun h => (by cases h), fun _ => .inl rfl, fun h => ?_⟩
  rcases h rfl with h | h | ⟨w, rest, h, hd⟩
  · cases h
  · cases h
  · cases h
    cases hd

theorem witness_RoundTripLaw :
    Reg.chipId ≠ .detectionStatus ∧ Reg.chipId ≠ .keyStatus ∧ Reg.chipId ≠ .foMcGuard := by decide

theorem witness_DecodeFrameLaw : Reg.keySignalLs 3 ≠ .keySignalMs 3 ∧ Reg.aveAks 1 ≠ .aveAks 0 := by decide

theorem witness_ImageDeterminesTheMirror : ∀ r : Reg, fixtureMirror.encode r = (fixtureMirror.decode .chipId 0x2E).encode r := by
  intro r; cases r <;> rfl

theorem witness_AddressOfTable : addressOf (.keySignalMs 6) = addressOf (.keySignalMs 6) ∧
    addressOf (.keySignalMs 6) = 0x10 ∧ addressOf (.keySignalLs 6) = 0x11 := by decide

/-- Each range at both ends, key 0 and key 6. -/
theorem witness_RegOfInvertsAddressOf :
    (addressOf (.aveAks 6)).toNat = (0x2D : Fin 58).val ∧
    regOf 0x04 = .keySignalMs 0 ∧ regOf 0x11 = .keySignalLs 6 ∧ regOf 0x12 = .referenceDataMs 0 ∧
    regOf 0x1F = .referenceDataLs 6 ∧ regOf 0x20 = .negativeThreshold 0 ∧ regOf 0x26 = .negativeThreshold 6 ∧
    regOf 0x27 = .aveAks 0 ∧ regOf 0x2D = .aveAks 6 ∧ regOf 0x2E = .detectionIntegrator 0 ∧
    regOf 0x34 = .detectionIntegrator 6 := by decide

theorem witness_DecodeOfPackedRegisters : (6 : Key) ≠ 0 := by decide

theorem witness_DecodeOfCompositeHalves : (0 : Key) ≠ 6 := by decide

theorem witness_DecResult : Reg.keyStatus ≠ .detectionStatus := by decide

/-- The two replies a transaction can have. -/
theorem witness_SyncaResult : (ready [.ok fixture]).nextReply = .ok fixture ∧ (ready [.err 5]).nextReply = .err 5 :=
  ⟨rfl, rfl⟩

theorem witness_SyncaForgetsTheOldMirror :
    (ready [.ok fixture]).nextReply = .ok fixture ∧
    ({ holding fixtureMirror with replies := [.ok fixture] } : State).nextReply = .ok fixture ∧
    (∃ t, exec .synca (ready [.ok fixture]) = .next t) ∧
    ∃ t, exec .synca { holding fixtureMirror with replies := [.ok fixture] } = .next t :=
  ⟨rfl, rfl, ⟨_, rfl⟩, ⟨_, rfl⟩⟩

theorem witness_SyncaAssemblesCompositesBigEndian :
    (ready [.ok fixture]).nextReply = .ok fixture ∧ (∃ t, exec .synca (ready [.ok fixture]) = .next t) ∧
    (0x11 : Fin 58).val = (0x10 : Fin 58).val + 1 ∧ (0x10 : Fin 58).val = 0x04 + 2 * (6 : Key).val ∧
    (0x1F : Fin 58).val = (0x1E : Fin 58).val + 1 ∧ (0x1E : Fin 58).val = 0x12 + 2 * (6 : Key).val :=
  ⟨rfl, ⟨_, rfl⟩, rfl, rfl, rfl, rfl⟩

theorem witness_Sync1Result : (ready [bytes 0xBF]).nextReply = .ok (Vector.replicate 58 0xBF) ∧
    (ready [.err 5]).nextReply = .err 5 ∧ Reg.chipId ≠ .detectionStatus := ⟨rfl, rfl, by decide⟩

/-- Both sides of the gate, where they meet. -/
theorem witness_WrResult : writable (.negativeThreshold 0) = true ∧ writable (.referenceDataLs 6) = false := by decide

/-- The largest operand of each range. -/
theorem witness_SetterResults : (63 : Byte).toNat < 64 ∧ (3 : Byte).toNat < 4 ∧ (1 : Byte).toNat < 2 ∧
    (15 : Byte).toNat < 16 := by decide

theorem witness_SubFieldIndependence :
    (∃ t, exec (.setAve 2 16) (holding fixtureMirror) = .next t) ∧ (∃ t, exec (.setAks 2 3) (holding fixtureMirror) = .next t) ∧
    (∃ t, exec (.setFo 1) (holding fixtureMirror) = .next t) ∧ (∃ t, exec (.setMc 1) (holding fixtureMirror) = .next t) ∧
    (∃ t, exec (.setGuard 15) (holding fixtureMirror) = .next t) ∧
    ∃ t ev, exec (.setAve 2 16) (ready [bytes 0]) = .next t ∧ t.history = (ready [bytes 0]).history ++ [ev] ∧
      ev.wbytes.getLast? = some 0x41 :=
  ⟨⟨_, rfl⟩, ⟨_, rfl⟩, ⟨_, rfl⟩, ⟨_, rfl⟩, ⟨_, rfl⟩, _, _, rfl, rfl, rfl⟩

/-- The smallest operand that is refused, of each range. -/
theorem witness_OversizedOperandIsRefused : 64 ≤ (64 : Byte).toNat ∧ 4 ≤ (4 : Byte).toNat ∧ 2 ≤ (2 : Byte).toNat ∧
    16 ≤ (16 : Byte).toNat := by decide

theorem witness_FailedWriteIsNotRolledBack :
    opField (encode (.setNthr 0 0x30)) = 0x21 ∧ opField (encode (.wr .lowPowerMode 5)) = 0x20 ∧
    (ready [.err 9]).nextReply = .err 9 ∧ (ready [bytes 0]).mirror = (ready [.err 9]).mirror ∧
    (∃ t, exec (.setNthr 0 0x30) (ready [bytes 0]) = .next t) ∧
    ∃ t, exec (.setNthr 0 0x30) (ready [.err 9]) = .next t ∧ t.history ≠ (ready [.err 9]).history :=
  ⟨by decide, by decide, rfl, rfl, ⟨_, rfl⟩, _, rfl,
    fun h => absurd (congrArg List.length h) (by decide)⟩

theorem witness_SetThenGetReadsBack :
    (∃ t, exec (.setNthr 6 0xFF) (ready [bytes 0]) = .next t) ∧ (∃ t, exec (.setDi 6 0xFF) (ready [bytes 0]) = .next t) ∧
    (∃ t, exec (.setLp 0xFF) (ready [bytes 0]) = .next t) ∧ (∃ t, exec (.setMaxon 0xFF) (ready [bytes 0]) = .next t) ∧
    (∃ t, exec (.setAve 6 63) (ready [.err 1]) = .next t) ∧ (∃ t, exec (.setAks 6 3) (ready [.err 1]) = .next t) ∧
    (∃ t, exec (.setFmg 63) (ready [.err 1]) = .next t) ∧ (∃ t, exec (.setFo 1) (ready [.err 1]) = .next t) ∧
    (∃ t, exec (.setMc 1) (ready [.err 1]) = .next t) ∧ ∃ t, exec (.setGuard 15) (ready [.err 1]) = .next t :=
  ⟨⟨_, rfl⟩, ⟨_, rfl⟩, ⟨_, rfl⟩, ⟨_, rfl⟩, ⟨_, rfl⟩, ⟨_, rfl⟩, ⟨_, rfl⟩, ⟨_, rfl⟩, ⟨_, rfl⟩, ⟨_, rfl⟩⟩

theorem witness_CachedAnswersDependOnTheMirrorOnly :
    opField (encode (.enc .chipId)) = 0x02 ∧ opField (encode (.addr .chipId)) = 0x03 ∧
    opField (encode (.getSignal 6)) = 0x30 ∧ opField (encode .lpi) = 0x31 ∧ opField (encode .mod) = 0x32 ∧
    (ready [bytes 0]).mirror = (ready [.err 1]).mirror ∧ (∃ t, exec (.getSignal 6) (ready [bytes 0]) = .next t) ∧
    ∃ t, exec (.getSignal 6) (ready [.err 1]) = .next t :=
  ⟨by decide, by decide, by decide, by decide, by decide, rfl, ⟨_, rfl⟩, ⟨_, rfl⟩⟩

theorem witness_FreshSignalAndReferenceReads :
    (ready [bytes 0x12, bytes 0x34]).replies = .ok (Vector.replicate 58 0x12) :: .ok (Vector.replicate 58 0x34) :: [] ∧
    (ready [bytes 0x12, .err 5]).replies = .ok (Vector.replicate 58 0x12) :: .err 5 :: [] ∧
    (ready [.err 5]).replies = .err 5 :: [] := ⟨rfl, rfl, rfl⟩

/-- The largest value of a field in one register and of one in two; a register no slice names, and a bit beside one. -/
theorem witness_MutChangesTheFieldsBitsOnly :
    (63 : Half).toNat < 2 ^ (FieldId.ave 6).width ∧ (0xFFFF : Half).toNat < 2 ^ (FieldId.signal 6).width ∧
    (∀ sl ∈ (FieldId.ave 6).slices, sl.reg = .chipId → 0 < sl.lo ∨ sl.lo + sl.width ≤ 0) ∧
    (∀ sl ∈ (FieldId.ave 6).slices, sl.reg = .aveAks 6 → 1 < sl.lo ∨ sl.lo + sl.width ≤ 1) := by decide

theorem witness_WcalPollResult : (ready [bytes 0x80]).nextReply = .ok (Vector.replicate 58 0x80) ∧
    (Vector.replicate 58 0x80 : Vector Byte 58)[0].getLsbD 7 = true ∧
    (ready [bytes 0x7F]).nextReply = .ok (Vector.replicate 58 0x7F) ∧
    (Vector.replicate 58 0x7F : Vector Byte 58)[0].getLsbD 7 = false ∧ (ready [.err 5]).nextReply = .err 5 :=
  ⟨rfl, by decide, rfl, by decide, rfl⟩

/-- V61's replies. -/
theorem witness_WcalReadsOncePerPoll :
    Presents (present 0x40000000 (ready [bytes 0x80, bytes 0x81, bytes 0x00])) 0x40000000 [] ∧
    NoReset (present 0x40000000 (ready [bytes 0x80, bytes 0x81, bytes 0x00])).resets ∧
    (present 0x40000000 (ready [bytes 0x80, bytes 0x81, bytes 0x00])).replies =
      [bytes 0x80, bytes 0x81] ++ .ok (Vector.replicate 58 0x00) :: [] ∧
    (∀ r ∈ [bytes 0x80, bytes 0x81], ReadsCalibrating r) ∧
    (Vector.replicate 58 0x00 : Vector Byte 58)[0].getLsbD 7 = false := by
  refine ⟨⟨rfl, rfl, rfl⟩, by simp [NoReset, ready, State.reset], rfl, ?_, by decide⟩
  intro r hr
  simp only [List.mem_cons, List.not_mem_nil, or_false] at hr
  rcases hr with rfl | rfl <;> exact ⟨_, rfl, by decide⟩

/-- V64's replies. -/
theorem witness_WcalNeverEndsWhileCalibrating :
    let s : State := { waiting with repliesAfter := some (bytes 0x80) }
    s.polling = true ∧ s.response = none ∧ NoReset s.resets ∧ s.replies = [] ∧ s.repliesAfter = some (bytes 0x80) ∧
    ReadsCalibrating (bytes 0x80) :=
  ⟨rfl, rfl, by simp [NoReset, waiting, State.reset], rfl, rfl, _, rfl, by decide⟩

/-- Legal traffic of each of the three shapes, and a step from there. -/
theorem witness_BusTrafficStaysLegal :
    let s : State := { ready [] with
      history := [readEvent 0x02 1 (bytes 0), readEvent 0x00 58 (.ok fixture), writeEvent 0x35 0x3F (bytes 0)] }
    BusOk s ∧ ∃ t, step s = .next t := by
  refine ⟨?_, _, rfl⟩
  intro e he
  simp only [List.mem_cons, List.not_mem_nil, or_false] at he
  rcases he with rfl | rfl | rfl
  · exact ⟨rfl, fun bs h => onBus_length (bytes 0) 1 (by decide) bs h, .inl ⟨rfl, rfl, 0x02, rfl, by decide⟩⟩
  · exact ⟨rfl, fun bs h => onBus_length (.ok fixture) 58 (by decide) bs h, .inr (.inl ⟨rfl, rfl, rfl⟩)⟩
  · exact ⟨rfl, fun bs h => onBus_length (bytes 0) 0 (by decide) bs h, .inr (.inr ⟨rfl, rfl, 0x35, 0x3F, rfl, by decide, by decide, by decide⟩)⟩

/-- A polling state that meets the invariant, and a step from there. -/
theorem witness_PollingPhaseStaysConsistent :
    let s : State := { ready [bytes 0x80] with
      polling := true
      mirror := State.reset.mirror.decode .detectionStatus 0x80
      history := [readEvent 0x02 1 (bytes 0x80)] }
    PollingOk s ∧ s.polling = true ∧ ∃ t, step s = .next t :=
  ⟨fun _ => ⟨rfl, by decide, _, rfl⟩, rfl, _, rfl⟩

/-- Each of the ways, with a read-only register whose byte changes. -/
theorem witness_ReadOnlyRegistersChangeOnlyByDecoding :
    writable .keyStatus = false ∧ writable .detectionStatus = false ∧
    (∃ t, step { holding fixtureMirror with resets := [.between] } = .next t ∧
      t.mirror.encode .keyStatus ≠ fixtureMirror.encode .keyStatus) ∧
    (∃ t, step { waiting with replies := [bytes 0x41] } = .next t ∧
      t.mirror.encode .detectionStatus ≠ State.reset.mirror.encode .detectionStatus) ∧
    (∃ t, step (present 0x11030000 (ready [bytes 0x7F])) = .next t ∧
      t.mirror.encode .keyStatus ≠ State.reset.mirror.encode .keyStatus) ∧
    Presents (present 0x11030000 (ready [bytes 0x7F])) 0x11030000 [] ∧ decode 0x11030000 = .ok (.sync1 .keyStatus) :=
  ⟨rfl, rfl, ⟨_, rfl, by decide⟩, ⟨_, rfl, by decide⟩, ⟨_, rfl, by decide⟩, ⟨rfl, rfl, rfl⟩, rfl⟩

/-- For the four statements about every command that answers a next state: one that writes, one that reads, one that
only answers, and a WCAL that goes on. -/
theorem witness_EveryCommand :
    Instr.wf (.setAve 6 63) = true ∧ (∃ t, exec (.setAve 6 63) (ready [.err 7]) = .next t ∧ FailedWith t 7) ∧
    (∃ t, exec (.sync1 .keyStatus) (ready [bytes 0x7F]) = .next t ∧ t.polling = false) ∧
    (∃ t, exec .getKeys (ready []) = .next t ∧ NoTraffic (ready []) t) ∧
    ∃ t, exec .wcal (ready [bytes 0x80]) = .next t ∧ t.polling = true ∧ t.response = none :=
  ⟨rfl, ⟨_, rfl, rfl, rfl⟩, ⟨_, rfl, rfl⟩, ⟨_, rfl, rfl, rfl, rfl, rfl, rfl⟩, _, rfl, rfl, rfl⟩


end Sys2Proof.Tests
end

/-! The mirror, its reset values and its read-only registers (10_state.md): the frame of a decode, the mirror as its
58 bytes, and what a step can do to it. -/

namespace Sys2Proof.Machine

/-! ### The frame of a decode (40_codec.md R175) -/

/-- Replacing the MS half of one composite leaves every LS half. -/
theorem low_set_high (xs : Vector Half 7) (j k : Key) (b : Byte) :
    ((xs.set j (b ++ (xs[j]).extractLsb' 0 8))[k]).extractLsb' 0 8 = (xs[k]).extractLsb' 0 8 := by
  by_cases h : j = k
  · simp [h, half_low]
  · simp [Fin.val_inj, h]

/-- Replacing the LS half of one composite leaves every MS half. -/
theorem high_set_low (xs : Vector Half 7) (j k : Key) (b : Byte) :
    ((xs.set j ((xs[j]).extractLsb' 8 8 ++ b))[k]).extractLsb' 8 8 = (xs[k]).extractLsb' 8 8 := by
  by_cases h : j = k
  · simp [h, half_high]
  · simp [Fin.val_inj, h]

/-- Decoding one register leaves the byte of every other. Only the two halves of a composite and two keys of one
group share a field. -/
theorem encode_decode_of_ne (m : Mirror) (r r' : Reg) (v : Byte) (h : r' ≠ r) :
    (m.decode r v).encode r' = m.encode r' := by
  cases r <;> cases r' <;> try rfl
  case keySignalMs.keySignalLs j k | referenceDataMs.referenceDataLs j k => exact low_set_high _ j k v
  case keySignalLs.keySignalMs j k | referenceDataLs.referenceDataMs j k => exact high_set_low _ j k v
  case keySignalMs.keySignalMs j k | keySignalLs.keySignalLs j k | referenceDataMs.referenceDataMs j k |
      referenceDataLs.referenceDataLs j k | negativeThreshold.negativeThreshold j k | aveAks.aveAks j k |
      detectionIntegrator.detectionIntegrator j k =>
    have hjk : j ≠ k := by rintro rfl; exact h rfl
    simp [Mirror.decode, Mirror.encode, Fin.val_inj, hjk]
  all_goals exact absurd rfl h

/-! ### The mirror read back from its bytes (10_state.md R64) -/

/-- The mirror whose registers have the bytes `f`. -/
def Mirror.ofBytes (f : Reg → Byte) : Mirror where
  majorId := (f .chipId).extractLsb' 4 4
  minorId := (f .chipId).extractLsb' 0 4
  firmwareVersion := f .firmwareVersion
  dsCalibrate := (f .detectionStatus).getLsbD 7
  dsOverflow := (f .detectionStatus).getLsbD 6
  dsTouch := (f .detectionStatus).getLsbD 0
  keyTouch := (f .keyStatus).extractLsb' 0 7
  keySignal := Vector.ofFn fun k => f (.keySignalMs k) ++ f (.keySignalLs k)
  referenceData := Vector.ofFn fun k => f (.referenceDataMs k) ++ f (.referenceDataLs k)
  negativeThreshold := Vector.ofFn fun k => f (.negativeThreshold k)
  ave := Vector.ofFn fun k => (f (.aveAks k)).extractLsb' 2 6
  aks := Vector.ofFn fun k => (f (.aveAks k)).extractLsb' 0 2
  detectionIntegrator := Vector.ofFn fun k => f (.detectionIntegrator k)
  fastOut := (f .foMcGuard).getLsbD 5
  maxCal := (f .foMcGuard).getLsbD 4
  guardChannel := (f .foMcGuard).extractLsb' 0 4
  lowPowerMode := f .lowPowerMode
  maxOnDuration := f .maxOnDuration
  calibrate := f .calibrate
  reset := f .reset

/-- Every field of the mirror stands in the bytes of its registers. -/
theorem ofBytes_encode (m : Mirror) : Mirror.ofBytes m.encode = m := by
  have status := status_split m.dsCalibrate m.dsOverflow m.dsTouch
  have guard := foMcGuard_split m.fastOut m.maxCal m.guardChannel
  simp only [Mirror.ofBytes, Mirror.encode, nibbles_split, keys_split, aveAks_split, half_join, status, guard,
    Fin.getElem_fin, Vector.ofFn_getElem]

/-- Settles O16: reading the bytes back is a left inverse of `encode`. -/
theorem imageDeterminesTheMirror : Obligations.ImageDeterminesTheMirror := by
  intro m m' h
  rw [← ofBytes_encode m, ← ofBytes_encode m', funext h]

/-! ### What a step does to the mirror -/

@[simp] theorem writeThrough_mirror (r : Reg) (upd : Mirror → Mirror) (s : State) :
    (writeThrough r upd s).mirror = upd s.mirror := by
  cases h : s.nextReply with
  | ok bs => simp [writeThrough_ok _ _ _ bs h]
  | err e => simp [writeThrough_err _ _ _ e h]

/-- SYNC1 decodes its register from the byte read, or fails and keeps the mirror (41_sync.md R191). -/
theorem execSync1_mirror (r : Reg) (s t : State) (h : execSync1 r s = .next t) :
    t.mirror = s.mirror ∨ ∃ b, t.mirror = s.mirror.decode r b := by
  cases hr : s.nextReply with
  | err e => rw [execSync1_err r s e hr] at h; cases h; exact .inl rfl
  | ok buf => rw [execSync1_ok r s buf hr] at h; cases h; exact .inr ⟨buf[0], rfl⟩

/-- A poll of WCAL decodes DetectionStatus from the byte read, or fails and keeps the mirror (44_system.md R300). -/
theorem execWcal_mirror (s t : State) (h : execWcal s = .next t) :
    t.mirror = s.mirror ∨ ∃ b, t.mirror = s.mirror.decode .detectionStatus b := by
  cases hr : s.nextReply with
  | err e => rw [execWcal_err s e hr] at h; cases h; exact .inl rfl
  | ok buf =>
    cases hb : buf[0].getLsbD 7
    · rw [execWcal_clear s buf hr hb] at h; cases h; exact .inr ⟨buf[0], rfl⟩
    · rw [execWcal_busy s buf hr hb] at h; cases h; exact .inr ⟨buf[0], rfl⟩

/-- `i` decodes the one register `r` into the mirror, and nothing else. -/
def DecodesOnly (i : Instr) (r : Reg) : Prop :=
  (∃ b, i = .dec r b) ∨ i = .sync1 r ∨ (i = .wcal ∧ r = .detectionStatus)

/-- What a command can do to the mirror: keep it, update it within the writable registers, decode one register, or
(SYNCA alone) anything. -/
theorem exec_mirror_cases (i : Instr) (s t : State) (h : exec i s = .next t) :
    t.mirror = s.mirror ∨ (∃ upd, KeepsReadOnly upd ∧ t.mirror = upd s.mirror) ∨
    (∃ r b, DecodesOnly i r ∧ t.mirror = s.mirror.decode r b) ∨ i = .synca := by
  rcases exec_cases i s with ⟨d, f, he, -⟩ | ⟨r, b, rfl⟩ | ⟨-, he⟩ | ⟨r, upd, -, -, hk, he⟩ | rfl | ⟨r, rfl⟩ | rfl
  · cases he.symm.trans h; exact .inl rfl
  · cases h; exact .inr (.inr (.inl ⟨r, b, .inl ⟨b, rfl⟩, rfl⟩))
  · cases he.symm.trans h; exact .inl rfl
  · cases he.symm.trans h; exact .inr (.inl ⟨upd, hk, writeThrough_mirror r upd s⟩)
  · exact .inr (.inr (.inr rfl))
  · obtain hm | ⟨b, hm⟩ := execSync1_mirror r s t h
    · exact .inl hm
    · exact .inr (.inr (.inl ⟨r, b, .inr (.inl rfl), hm⟩))
  · obtain hm | ⟨b, hm⟩ := execWcal_mirror s t h
    · exact .inl hm
    · exact .inr (.inr (.inl ⟨.detectionStatus, b, .inr (.inr ⟨rfl, rfl⟩), hm⟩))

/-- A command that changes the byte of a read-only register decodes that register, or is SYNCA. -/
theorem exec_changes_readOnly (i : Instr) (s t : State) (r : Reg) (h : exec i s = .next t)
    (hr : writable r = false) (hne : t.mirror.encode r ≠ s.mirror.encode r) : i = .synca ∨ DecodesOnly i r := by
  rcases exec_mirror_cases i s t h with hm | ⟨upd, hk, hm⟩ | ⟨r', b, hd, hm⟩ | hs
  · exact absurd (by rw [hm]) hne
  · exact absurd (by rw [hm]; exact hk _ _ hr) hne
  · obtain rfl : r = r' := by
      by_contra hrr
      exact hne (by rw [hm]; exact encode_decode_of_ne _ _ _ _ hrr)
    exact .inr hd
  · exact .inl hs

/-- Settles O54: by what the turn runs. A word rejected or none waiting keeps the mirror; a command or a poll of WCAL
changes a read-only register only by decoding it. -/
theorem readOnlyRegistersChangeOnlyByDecoding : Obligations.ReadOnlyRegistersChangeOnlyByDecoding := by
  intro s t r hstep hr hne
  rcases fetch_cases s with ⟨-, hp, hf⟩ | ⟨w, rest, i, hoff, hp, hc, hd, hf⟩ | ⟨w, rest, e, -, -, -, -, hf⟩ |
    ⟨-, -, -, hf⟩ | ⟨hreset, -⟩ | ⟨hreset, -⟩ | ⟨-, -, hreset, -⟩ | ⟨-, -, hreset, -⟩
  · rw [step_of_runs _ _ _ hf] at hstep
    have hd := exec_changes_readOnly .wcal _ t r hstep hr hne
    exact .inr (.inl ⟨hp, by simpa [DecodesOnly] using hd⟩)
  · rw [step_of_runs _ _ _ hf] at hstep
    refine .inr (.inr ⟨w, rest, i, ⟨hp, hc, hoff⟩, hd, ?_⟩)
    obtain rfl | hb | rfl | hw := exec_changes_readOnly i _ t r hstep hr hne
    · exact .inl rfl
    · exact .inr (.inr (.inl hb))
    · exact .inr (.inl rfl)
    · exact .inr (.inr (.inr hw))
  · cases (step_of_ends _ _ hf).symm.trans hstep
    exact absurd rfl hne
  · cases (step_of_ends _ _ hf).symm.trans hstep
    exact absurd rfl hne
  · exact .inl hreset
  -- a reset inside a poll, or inside a command, which has no step
  all_goals exact .inl (by simp [hreset])

/-! ### Reset (10_state.md R60, R62) -/

/-- Settles O12: the seven values are no argument of `Mirror.resetWith`, and both resets use it. -/
theorem resetValuesTheSourceGives : Obligations.ResetValuesTheSourceGives := by
  refine ⟨fun p => ⟨rfl, rfl, rfl, rfl, rfl, fun k => ?_⟩, ⟨_, rfl⟩, fun s => ⟨_, applyReset_mirror s⟩⟩
  simp [Mirror.resetWith]

/-- Settles O13: one closed state, its 58 bytes evaluated. -/
theorem powerOnState : Obligations.PowerOnState := by
  refine ⟨?_, rfl, rfl, rfl⟩
  decide

end Sys2Proof.Machine

/-! The bus and the gate (20_memory.md): the address map with its gate, what SYNCA leaves in the mirror, and the traffic
of a command and of a step. -/

namespace Sys2Proof.Machine

open Sys2Proof.Safety

/-! ### The address map and the gate (20_memory.md R71, R90; 40_codec.md R170, R171) -/

theorem addressOf_le (r : Reg) : (addressOf r).toNat ≤ 0x39 := by
  cases r
  case keySignalMs k | keySignalLs k | referenceDataMs k | referenceDataLs k | negativeThreshold k | aveAks k |
      detectionIntegrator k =>
    have := addressOf_perKey k
    omega
  all_goals decide

theorem addressOf_lt (r : Reg) : (addressOf r).toNat < 58 := Nat.lt_succ_of_le (addressOf_le r)

theorem writable_iff_sel (r : Reg) : writable r = true ↔ 8 ≤ r.sel.toNat := by
  cases r <;> simp [writable, Reg.sel]

theorem writable_iff_address (r : Reg) : writable r = true ↔ 0x20 ≤ (addressOf r).toNat := by
  cases r
  case keySignalMs k | keySignalLs k | referenceDataMs k | referenceDataLs k | negativeThreshold k | aveAks k |
      detectionIntegrator k =>
    have := addressOf_perKey k
    simp only [writable, true_iff, false_iff, reduceCtorEq]
    omega
  all_goals decide

/-- Settles O19: group by group, by number and by address. -/
theorem gateTable : Obligations.GateTable := fun r => ⟨writable_iff_sel r, writable_iff_address r⟩

theorem addressOf_regOf : ∀ a : Fin 58, (addressOf (regOf a)).toNat = a.val := by decide

/-- The register found at a register's address is that register. -/
theorem regOf_addressOf (r : Reg) : regOf ⟨(addressOf r).toNat, addressOf_lt r⟩ = r := by
  cases r
  case keySignalMs k | keySignalLs k | referenceDataMs k | referenceDataLs k | negativeThreshold k | aveAks k |
      detectionIntegrator k =>
    revert k
    decide
  all_goals rfl

theorem regOf_eq_of_address (r : Reg) (a : Fin 58) (h : (addressOf r).toNat = a.val) : regOf a = r := by
  rw [← regOf_addressOf r]
  exact congrArg regOf (Fin.ext h.symm)

theorem regOf_injective (a b : Fin 58) (h : regOf a = regOf b) : a = b := by
  apply Fin.ext
  rw [← addressOf_regOf a, h, addressOf_regOf b]

/-! ### What SYNCA leaves in the mirror (41_sync.md R190) -/

/-- A register decoded from a byte has that byte, its reserved bits cleared (40_codec.md R174). -/
theorem encode_decode_same (m : Mirror) (r : Reg) (v : Byte) : (m.decode r v).encode r = v &&& definedBits r := by
  have all : v &&& 0xFF#8 = v := BitVec.and_allOnes
  cases r
  case chipId => exact (nibbles_join v).trans all.symm
  case detectionStatus => exact status_join v
  case keyStatus => exact keys_join v
  case foMcGuard => exact foMcGuard_join v
  case aveAks k => simp [Mirror.decode, Mirror.encode, definedBits, aveAks_join, all]
  all_goals simp [Mirror.decode, Mirror.encode, definedBits, half_high, half_low, all]

/-- Decoding the registers at the addresses `as` gives the register at `a` the byte of the buffer there if `a` is among
them, and leaves its byte otherwise. -/
theorem encode_foldl_decode (buf : Vector Byte 58) (a : Fin 58) (as : List (Fin 58)) (m : Mirror) :
    (as.foldl (fun m b => m.decode (regOf b) buf[b]) m).encode (regOf a) =
      if a ∈ as then buf[a] &&& definedBits (regOf a) else m.encode (regOf a) := by
  induction as generalizing m with
  | nil => simp
  | cons b as ih =>
    rw [List.foldl_cons, ih]
    by_cases hab : a = b
    · subst hab
      simp [encode_decode_same]
    · have hne : regOf a ≠ regOf b := fun h => hab (regOf_injective a b h)
      simp [hab, encode_decode_of_ne _ _ _ _ hne]

/-- Every register's byte after decoding a whole buffer. -/
theorem encode_decodeAll (m : Mirror) (buf : Vector Byte 58) (a : Fin 58) :
    (m.decodeAll buf).encode (regOf a) = buf[a] &&& definedBits (regOf a) := by
  exact (encode_foldl_decode buf a (List.finRange 58) m).trans (if_pos (List.mem_finRange a))

/-- A register without reserved bits holds the byte of the buffer at its address. -/
theorem encode_decodeAll_plain (m : Mirror) (buf : Vector Byte 58) (r : Reg) (a : Fin 58)
    (ha : (addressOf r).toNat = a.val) (hr : definedBits r = 0xFF) : (m.decodeAll buf).encode r = buf[a] := by
  have h := encode_decodeAll m buf a
  rw [regOf_eq_of_address r a ha, hr] at h
  exact h.trans BitVec.and_allOnes

/-- Settles O29: a composite is joined from the bytes of its two registers, which SYNCA takes from the buffer. -/
theorem syncaAssemblesCompositesBigEndian : Obligations.SyncaAssemblesCompositesBigEndian := by
  intro s t buf hbuf hexec k i j hj
  cases (execSynca_ok s buf hbuf).symm.trans hexec
  obtain ⟨⟨hsm, hsl⟩, ⟨hrm, hrl⟩, -⟩ := addressOf_perKey k
  constructor
  · intro hi
    rw [← encode_decodeAll_plain s.mirror buf (.keySignalMs k) i (by omega) rfl,
      ← encode_decodeAll_plain s.mirror buf (.keySignalLs k) j (by omega) rfl]
    exact (half_join _).symm
  · intro hi
    rw [← encode_decodeAll_plain s.mirror buf (.referenceDataMs k) i (by omega) rfl,
      ← encode_decodeAll_plain s.mirror buf (.referenceDataLs k) j (by omega) rfl]
    exact (half_join _).symm

/-! ### What a cached getter answers (20_memory.md R96, 43_get.md R260) -/

theorem noTraffic_respond (d : Half) (f : Bool) (s : State) : NoTraffic s (respond d f s) := ⟨rfl, rfl, rfl, rfl, rfl⟩

theorem noTraffic_raise (c : Cause) (s : State) : NoTraffic s (raise c s) := ⟨rfl, rfl, rfl, rfl, rfl⟩

theorem onlyAnswered_respond (d : Half) (f : Bool) (s : State) : OnlyAnswered s (respond d f s) d f :=
  ⟨rfl, noTraffic_respond d f s, rfl, _, rfl⟩

/-- ENC, ADDR, GET, LPI and MOD respond from the mirror, with the same data and flag wherever the mirror is the same. -/
theorem exec_cached (i : Instr) (s s' : State)
    (hop : opField (encode i) = 0x02 ∨ opField (encode i) = 0x03 ∨ opField (encode i) = 0x30 ∨
      opField (encode i) = 0x31 ∨ opField (encode i) = 0x32)
    (hm : s.mirror = s'.mirror) :
    ∃ d f, exec i s = .next (respond d f s) ∧ exec i s' = .next (respond d f s') := by
  obtain ⟨m⟩ := s
  obtain ⟨m'⟩ := s'
  obtain rfl : m = m' := hm
  cases i
  case dec | synca | sync1 | wr | wcal | setNthr | setAve | setAks | setDi | setFmg | setFo | setMc | setGuard | setLp |
      setMaxon | setCal | setRst =>
    simp [encode] at hop
  all_goals exact ⟨_, _, rfl, rfl⟩

/-- Settles O44: both runs are the one response of `exec_cached`. -/
theorem cachedAnswersDependOnTheMirrorOnly : Obligations.CachedAnswersDependOnTheMirrorOnly := by
  intro i s s' t t' hop hm h h'
  obtain ⟨d, f, he, he'⟩ := exec_cached i s s' hop hm
  cases he.symm.trans h
  cases he'.symm.trans h'
  exact ⟨d, f, onlyAnswered_respond d f s, onlyAnswered_respond d f s'⟩

/-! ### The one transaction of a write or a read (20_memory.md R76, R77, R83) -/

/-- A write-through issues one write, of the byte its register then has, whatever the reply. -/
theorem writeThrough_transaction (r : Reg) (upd : Mirror → Mirror) (s : State) :
    OneTransaction s (writeThrough r upd s)
      (writeEvent (addressOf r) ((writeThrough r upd s).mirror.encode r) s.nextReply) := by
  rw [writeThrough_mirror]
  cases h : s.nextReply with
  | ok bs => rw [writeThrough_ok r upd s bs h, h]; exact ⟨rfl, rfl, rfl, rfl, rfl⟩
  | err e => rw [writeThrough_err r upd s e h, h]; exact ⟨rfl, rfl, rfl, rfl, rfl⟩

theorem execSynca_transaction (s t : State) (h : execSynca s = .next t) :
    OneTransaction s t (readEvent 0x00 58 s.nextReply) := by
  cases hr : s.nextReply with
  | ok buf => rw [execSynca_ok s buf hr] at h; cases h; exact ⟨rfl, rfl, rfl, rfl, rfl⟩
  | err e => rw [execSynca_err s e hr] at h; cases h; exact ⟨rfl, rfl, rfl, rfl, rfl⟩

theorem execSync1_transaction (r : Reg) (s t : State) (h : execSync1 r s = .next t) :
    OneTransaction s t (readEvent (addressOf r) 1 s.nextReply) := by
  cases hr : s.nextReply with
  | ok buf => rw [execSync1_ok r s buf hr] at h; cases h; exact ⟨rfl, rfl, rfl, rfl, rfl⟩
  | err e => rw [execSync1_err r s e hr] at h; cases h; exact ⟨rfl, rfl, rfl, rfl, rfl⟩

theorem execWcal_transaction (s t : State) (h : execWcal s = .next t) :
    OneTransaction s t (readEvent 0x02 1 s.nextReply) := by
  cases hr : s.nextReply with
  | err e => rw [execWcal_err s e hr] at h; cases h; exact ⟨rfl, rfl, rfl, rfl, rfl⟩
  | ok buf =>
    cases hb : buf[0].getLsbD 7
    · rw [execWcal_clear s buf hr hb] at h; cases h; exact ⟨rfl, rfl, rfl, rfl, rfl⟩
    · rw [execWcal_busy s buf hr hb] at h; cases h; exact ⟨rfl, rfl, rfl, rfl, rfl⟩

/-! ### The three shapes are legal (20_memory.md R71, R74, R75, R90) -/

theorem legalTraffic_readOne (a : Byte) (r : DeviceReply) (ha : a.toNat ≤ 0x39) : LegalTraffic (readEvent a 1 r) :=
  ⟨rfl, onBus_length r 1 (by decide), .inl ⟨rfl, rfl, a, rfl, ha⟩⟩

theorem legalTraffic_readAll (r : DeviceReply) : LegalTraffic (readEvent 0x00 58 r) :=
  ⟨rfl, onBus_length r 58 (by decide), .inr (.inl ⟨rfl, rfl, rfl⟩)⟩

/-- The byte of the register at 0x35 has bits 7:6 clear (40_codec.md R162). -/
theorem encode_lt_of_address (m : Mirror) (r : Reg) (h : addressOf r = 0x35) : (m.encode r).toNat < 0x40 := by
  obtain rfl : .foMcGuard = r := regOf_eq_of_address r 0x35 (by rw [h]; rfl)
  rw [encode_foMcGuard, foMcGuard_toNat]
  have := m.guardChannel.isLt
  have := Bool.toNat_le m.fastOut
  have := Bool.toNat_le m.maxCal
  omega

theorem legalTraffic_write (m : Mirror) (r : Reg) (x : DeviceReply) (hw : writable r = true) :
    LegalTraffic (writeEvent (addressOf r) (m.encode r) x) :=
  ⟨rfl, onBus_length x 0 (by decide), .inr (.inr ⟨rfl, rfl, addressOf r, m.encode r, rfl,
    (writable_iff_address r).mp hw, addressOf_le r, encode_lt_of_address m r⟩)⟩

/-! ### The traffic of a command and of a step (20_memory.md R83) -/

/-- What a command can do on the bus: nothing, where R83's table gives it nothing or its operand is refused, or the one
transaction of the table, which is legal. -/
theorem exec_traffic_cases (i : Instr) (s t : State) (h : exec i s = .next t) :
    (NoTraffic s t ∧ (i.wf = true → trafficOf i s t = [])) ∨
    ∃ ev, OneTransaction s t ev ∧ trafficOf i s t = [ev] ∧ LegalTraffic ev := by
  rcases exec_cases i s with ⟨d, f, he, hw, hr⟩ | ⟨r, b, rfl⟩ | ⟨hf, he⟩ | ⟨r, upd, hr, hw, -, he⟩ | rfl | ⟨r, rfl⟩ | rfl
  · cases he.symm.trans h
    exact .inl ⟨noTraffic_respond d f s, fun _ => by simp [trafficOf, hw, hr]⟩
  · cases h
    exact .inl ⟨noTraffic_respond _ _ (s.setMirror _), fun _ => by simp [trafficOf, writtenReg, readOf]⟩
  · cases he.symm.trans h
    exact .inl ⟨noTraffic_raise _ s, fun hwf => by simp [hf] at hwf⟩
  · cases he.symm.trans h
    exact .inr ⟨_, writeThrough_transaction r upd s, by simp [trafficOf, hr], legalTraffic_write _ r _ hw⟩
  · exact .inr ⟨_, execSynca_transaction s t h, rfl, legalTraffic_readAll _⟩
  · exact .inr ⟨_, execSync1_transaction r s t h, by simp [trafficOf, writtenReg, readOf],
      legalTraffic_readOne _ _ (addressOf_le r)⟩
  · exact .inr ⟨_, execWcal_transaction s t h, rfl, legalTraffic_readOne _ _ (by decide)⟩

/-- Settles O55: a well-formed command issues what the table gives it. -/
theorem trafficOfEveryCommand : Obligations.TrafficOfEveryCommand := by
  intro i s t hwf h
  obtain ⟨⟨hh, -⟩, ht⟩ | ⟨ev, ⟨hh, -⟩, ht, -⟩ := exec_traffic_cases i s t h
  · rw [ht hwf, hh, List.append_nil]
  · rw [ht, hh]

/-- Settles O58: a command issues nothing or one transaction, and neither touches an input. -/
theorem commandsLeaveTheInputsAlone : Obligations.CommandsLeaveTheInputsAlone := by
  intro i s t h
  obtain ⟨hn, -⟩ | ⟨ev, ho, -⟩ := exec_traffic_cases i s t h
  · exact .inl hn
  · exact .inr ⟨ev, ho⟩

theorem busOk_of_same_history (s t : State) (hs : BusOk s) (h : t.history = s.history) : BusOk t := by
  intro e he
  rw [h] at he
  exact hs e he

theorem busOk_of_one_more (s t : State) (ev : BusEvent) (hs : BusOk s) (hev : LegalTraffic ev)
    (h : t.history = s.history ++ [ev]) : BusOk t := by
  intro e he
  rw [h, List.mem_append, List.mem_singleton] at he
  obtain he | rfl := he
  · exact hs e he
  · exact hev

/-- A command keeps the bus traffic legal. -/
theorem exec_busOk (i : Instr) (s t : State) (hs : BusOk s) (h : exec i s = .next t) : BusOk t := by
  obtain ⟨⟨hh, -⟩, -⟩ | ⟨ev, ⟨hh, -⟩, -, hev⟩ := exec_traffic_cases i s t h
  · exact busOk_of_same_history s t hs hh
  · exact busOk_of_one_more s t ev hs hev hh

/-- A reset inside a poll of WCAL lets the poll's read happen, which is legal (70_reset_and_hazards.md R341). -/
theorem abandonPoll_busOk (s : State) (hs : BusOk s) : BusOk (abandonPoll s) :=
  busOk_of_one_more s _ _ hs (legalTraffic_readOne 0x02 _ (by decide)) (abandonPoll_history s)

theorem busOk_of_runs (s s1 t : State) (i : Instr) (hf : fetch s = .runs i s1) (h : step s = .next t)
    (hs : BusOk s1) : BusOk t :=
  exec_busOk i s1 t hs ((step_of_runs s s1 i hf).symm.trans h)

theorem busOk_of_ends (s s1 t : State) (hf : fetch s = .ends s1) (h : step s = .next t) (hs : BusOk s1) : BusOk t := by
  cases (step_of_ends s s1 hf).symm.trans h
  exact hs

/-- Settles O51: by what the turn runs. A command keeps the traffic legal from a state with the same history; a turn
without a command issues nothing, but for the read of a poll that reset ends. -/
theorem busTrafficStaysLegal : Obligations.BusTrafficStaysLegal := by
  intro s t hs hstep
  rcases fetch_cases s with ⟨-, -, hf⟩ | ⟨w, rest, i, -, -, -, -, hf⟩ | ⟨w, rest, e, -, -, -, -, hf⟩ |
    ⟨-, -, -, hf⟩ | ⟨-, hf⟩ | ⟨-, -, hf⟩ | ⟨w, rest, -, -, -, -, hf⟩ | ⟨w, rest, -, -, -, -, hf⟩
  · exact busOk_of_runs _ _ _ _ hf hstep hs
  · exact busOk_of_runs _ _ _ _ hf hstep hs
  -- a word rejected, nothing presented, or reset alone
  · exact busOk_of_ends _ _ _ hf hstep hs
  · exact busOk_of_ends _ _ _ hf hstep hs
  · exact busOk_of_ends _ _ _ hf hstep hs
  -- a reset inside a later poll, or inside the first
  · exact busOk_of_ends _ _ _ hf hstep (abandonPoll_busOk _ hs)
  · exact busOk_of_ends _ _ _ hf hstep (abandonPoll_busOk _ hs)
  · cases (step_of_noStep _ hf).symm.trans hstep

end Sys2Proof.Machine

/-! Command words (30_encoding.md): the decoder and the encoder agree, and which words are illegal. -/

namespace Sys2Proof

open Sys2Proof.Safety

/-! ### KEY and DATA complete a selected command (R105 to R108) -/

theorem complete_scalar (f : Byte → Instr) (rule : DataRule) (d : Byte) (h : rule.ok d = true) :
    (Command.mk (.scalar f) rule).complete 0 d = .ok (f d) := by simp [Command.complete, h]

theorem complete_perKey (f : Key → Byte → Instr) (rule : DataRule) (k : Key) (d : Byte) (h : rule.ok d = true) :
    (Command.mk (.perKey f) rule).complete (keyByte k) d = .ok (f k d) := by
  simp [Command.complete, h]

/-- What completing a command to an instruction says of KEY and DATA. -/
theorem complete_eq_ok (c : Command) (key d : Byte) (i : Instr) (h : c.complete key d = .ok i) :
    c.data.ok d = true ∧
    ((∃ f, c.form = .scalar f ∧ key = 0 ∧ i = f d) ∨ ∃ f k, c.form = .perKey f ∧ key = keyByte k ∧ i = f k d) := by
  unfold Command.complete at h
  split at h
  next f hf =>
    split_ifs at h with hkey hd
    cases h
    exact ⟨hd, .inl ⟨f, hf, not_not.mp hkey, rfl⟩⟩
  next f hf =>
    split_ifs at h with hd hkey
    cases h
    exact ⟨hd, .inr ⟨f, ⟨key.toNat, hkey⟩, hf, by simp [keyByte], rfl⟩⟩

/-- A word decodes to what its KEY and DATA make of the command that its OP and SEL select. -/
theorem decode_packWord (op sel key d : Byte) (c : Command) (h : lookup op.toNat sel.toNat = .ok c) :
    decode (packWord op sel key d) = c.complete key d := by simp [decode, h]

/-- A word that decodes has an OP and a SEL that select a command. -/
theorem decode_eq_ok (w : Word) (i : Instr) (h : decode w = .ok i) :
    ∃ c, lookup (opField w).toNat (selField w).toNat = .ok c ∧ c.complete (keyField w) (dataField w) = .ok i := by
  unfold decode at h
  split at h
  next c hc => exact ⟨c, hc, h⟩
  next => cases h

/-! ### From the command to its word and back (R100 to R107) -/

/-- The word of a command addressed by group number decodes to it, where OP selects that command. -/
theorem decode_regWord (op : Byte) (mk : Reg → Byte → Instr) (rule : DataRule) (r : Reg) (d : Byte)
    (hop : ∀ sel, lookup op.toNat sel = regCommand mk rule sel) (hd : rule.ok d = true) :
    decode (packWord op r.sel r.keyByte d) = .ok (mk r d) := by
  cases r
  case keySignalMs k | keySignalLs k | referenceDataMs k | referenceDataLs k | negativeThreshold k | aveAks k |
      detectionIntegrator k =>
    exact (decode_packWord _ _ _ _ _ (hop _)).trans (complete_perKey _ _ k d hd)
  all_goals exact (decode_packWord _ _ _ _ _ (hop _)).trans (complete_scalar _ _ d hd)

/-- Settles O2: command by command, a group number by `decode_regWord`, a field selector by its row of the table. -/
theorem decodeInvertsEncode : Obligations.DecodeInvertsEncode := by
  intro i hwf
  cases i
  case dec r b => exact decode_regWord 0x01 .dec .any r b (fun _ => rfl) rfl
  case wr r b => exact decode_regWord 0x20 .wr .any r b (fun _ => rfl) rfl
  case enc r => exact decode_regWord 0x02 (fun r _ => .enc r) .zero r 0 (fun _ => rfl) rfl
  case addr r => exact decode_regWord 0x03 (fun r _ => .addr r) .zero r 0 (fun _ => rfl) rfl
  case sync1 r => exact decode_regWord 0x11 (fun r _ => .sync1 r) .zero r 0 (fun _ => rfl) rfl
  case setAve k v | setAks k v =>
    refine (decode_packWord _ _ _ _ _ rfl).trans (complete_perKey _ _ k v ?_)
    exact hwf
  case setFmg v | setFo v | setMc v | setGuard v =>
    refine (decode_packWord _ _ _ _ _ rfl).trans (complete_scalar _ _ v ?_)
    exact hwf
  case setKeytouch k _ | setSignal k _ | setRef k _ | setNthr k _ | setDi k _ | getKeytouch k | getSignal k | getRef k |
      getNthr k | getAve k | getAks k | getDi k =>
    exact (decode_packWord _ _ _ _ _ rfl).trans (complete_perKey _ _ k _ rfl)
  all_goals exact (decode_packWord _ _ _ _ _ rfl).trans (complete_scalar _ _ _ rfl)

/-- Every instruction that the command `c` completes to is well formed and has the OP `op` and the SEL `sel`, the
command's key and the DATA it was completed with. -/
def Command.HasWord (c : Command) (op sel : Byte) : Prop :=
  match c.form with
  | .scalar f => ∀ d, c.data.ok d = true → (f d).wf = true ∧ encode (f d) = packWord op sel 0 d
  | .perKey f => ∀ k d, c.data.ok d = true → (f k d).wf = true ∧ encode (f k d) = packWord op sel (keyByte k) d

theorem hasWord_complete (c : Command) (op sel key d : Byte) (i : Instr) (hc : c.HasWord op sel)
    (h : c.complete key d = .ok i) : i.wf = true ∧ encode i = packWord op sel key d := by
  obtain ⟨hd, ⟨f, hf, rfl, rfl⟩ | ⟨f, k, hf, rfl, rfl⟩⟩ := complete_eq_ok c key d i h
  · rw [Command.HasWord, hf] at hc
    exact hc d hd
  · rw [Command.HasWord, hf] at hc
    exact hc k d hd

theorem byte_eq_of_toNat (b : Byte) (n : Nat) (h : b.toNat = n) : b = BitVec.ofNat 8 n := by
  rw [← h, BitVec.ofNat_toNat, BitVec.setWidth_eq]

/-- The register that a scalar group number gives has that number, and takes no key. -/
theorem regForm_scalar (sel : Byte) (r : Reg) (h : regForm sel.toNat = some (.scalar r)) :
    r.sel = sel ∧ r.keyByte = 0 := by
  unfold regForm at h
  split at h
  all_goals cases h
  all_goals next hs => exact ⟨(byte_eq_of_toNat sel _ hs).symm, rfl⟩

/-- The registers that a per-key group number gives have that number, and their own key. -/
theorem regForm_perKey (sel : Byte) (f : Key → Reg) (h : regForm sel.toNat = some (.perKey f)) (k : Key) :
    (f k).sel = sel ∧ (f k).keyByte = keyByte k := by
  unfold regForm at h
  split at h
  all_goals cases h
  all_goals next hs => exact ⟨(byte_eq_of_toNat sel _ hs).symm, rfl⟩

theorem regCommand_hasWord (mk : Reg → Byte → Instr) (rule : DataRule) (op sel : Byte) (c : Command)
    (hmk : ∀ r d, rule.ok d = true → (mk r d).wf = true ∧ encode (mk r d) = packWord op r.sel r.keyByte d)
    (h : regCommand mk rule sel.toNat = .ok c) : c.HasWord op sel := by
  unfold regCommand at h
  split at h
  next r hr =>
    cases h
    obtain ⟨hs, hk⟩ := regForm_scalar sel r hr
    intro d hd
    rw [← hs, ← hk]
    exact hmk r d hd
  next f hf =>
    cases h
    intro k d hd
    obtain ⟨hs, hk⟩ := regForm_perKey sel f hf k
    rw [← hs, ← hk]
    exact hmk (f k) d hd
  next => cases h

theorem dataRule_zero_ok (d : Byte) : DataRule.zero.ok d = true ↔ d = 0 := by simp [DataRule.ok]

theorem soloCommand_hasWord (i : Instr) (op sel : Byte) (c : Command) (hwf : i.wf = true)
    (hi : encode i = packWord op 0 0 0) (h : soloCommand i sel.toNat = .ok c) : c.HasWord op sel := by
  unfold soloCommand at h
  split_ifs at h with hs
  cases h
  intro d hd
  rw [byte_eq_of_toNat sel 0 hs, (dataRule_zero_ok d).mp hd]
  exact ⟨hwf, hi⟩

theorem setCommand_hasWord (sel : Byte) (c : Command) (h : setCommand sel.toNat = .ok c) : c.HasWord 0x21 sel := by
  unfold setCommand at h
  split at h
  all_goals cases h
  all_goals next hs =>
    rw [byte_eq_of_toNat sel _ hs]
    simp +contextual [Command.HasWord, DataRule.ok, Instr.wf, encode]

theorem getCommand_hasWord (sel : Byte) (c : Command) (h : getCommand sel.toNat = .ok c) : c.HasWord 0x30 sel := by
  unfold getCommand at h
  split at h
  all_goals cases h
  all_goals next hs =>
    rw [byte_eq_of_toNat sel _ hs]
    simp +contextual [Command.HasWord, DataRule.ok, Instr.wf, encode]

/-- Every row of the tables of R101 to R103 completes to instructions of that row. -/
theorem lookup_hasWord (op sel : Byte) (c : Command) (h : lookup op.toNat sel.toNat = .ok c) : c.HasWord op sel := by
  unfold lookup at h
  split at h
  case h_12 => cases h
  case h_1 hop | h_6 hop =>
    rw [byte_eq_of_toNat op _ hop]
    exact regCommand_hasWord _ .any _ sel c (fun r d _ => ⟨rfl, rfl⟩) h
  case h_2 hop | h_3 hop | h_5 hop =>
    rw [byte_eq_of_toNat op _ hop]
    refine regCommand_hasWord _ .zero _ sel c (fun r d hd => ⟨rfl, ?_⟩) h
    rw [(dataRule_zero_ok d).mp hd]
    rfl
  case h_4 hop | h_9 hop | h_10 hop | h_11 hop =>
    rw [byte_eq_of_toNat op _ hop]
    exact soloCommand_hasWord _ _ sel c rfl rfl h
  case h_7 hop =>
    rw [byte_eq_of_toNat op _ hop]
    exact setCommand_hasWord sel c h
  case h_8 hop =>
    rw [byte_eq_of_toNat op _ hop]
    exact getCommand_hasWord sel c h

/-- Settles O3: the word is packed from its fields, and OP and SEL select a command whose words have them. -/
theorem encodeInvertsDecode : Obligations.EncodeInvertsDecode := by
  intro w i h
  obtain ⟨c, hc, hi⟩ := decode_eq_ok w i h
  have hw := hasWord_complete c _ _ _ _ i (lookup_hasWord _ _ c hc) hi
  rwa [packWord_fields] at hw

/-! ### Which words are illegal (R109) -/

/-- A per-key selector takes a key, a scalar one does not. -/
def Form.takesKey {α : Type} : Form α → Bool
  | .scalar _ => false
  | .perKey _ => true

/-- The command `c` is as R102, R103 and R105 to R107 give it for this OP and SEL. -/
structure Command.FitsTables (c : Command) (op sel : Nat) : Prop where
  inRange : SelInRange op sel
  key : c.form.takesKey = true ↔ TakesKey op sel
  data : ∀ d : Byte, c.data.ok d = true ↔ DataInRange op sel d.toNat

theorem regForm_takesKey (sel : Nat) (F : Form Reg) (h : regForm sel = some F) :
    sel ≤ 0x0F ∧ (F.takesKey = true ↔ 4 ≤ sel ∧ sel ≤ 10) := by
  unfold regForm at h
  split at h
  all_goals cases h
  all_goals simp [Form.takesKey]

theorem regCommand_fits (mk : Reg → Byte → Instr) (rule : DataRule) (op sel : Nat) (c : Command) (hop : IsGroupOp op)
    (hd : ∀ d : Byte, rule.ok d = true ↔ DataInRange op sel d.toNat) (h : regCommand mk rule sel = .ok c) :
    c.FitsTables op sel := by
  have hfield : ¬ IsFieldOp op := by
    unfold IsGroupOp at hop
    unfold IsFieldOp
    omega
  unfold regCommand at h
  split at h
  case h_3 => cases h
  all_goals next hr =>
    cases h
    obtain ⟨hs, hk⟩ := regForm_takesKey sel _ hr
    refine ⟨.inl ⟨hop, hs⟩, ?_, hd⟩
    simpa [TakesKey, hop, hfield, Form.takesKey] using hk

theorem dataRule_zero_ok_toNat (d : Byte) : DataRule.zero.ok d = true ↔ d.toNat = 0 := by
  rw [dataRule_zero_ok, ← BitVec.toNat_inj]
  rfl

theorem soloCommand_fits (i : Instr) (op sel : Nat) (c : Command) (hop : IsSoloOp op)
    (h : soloCommand i sel = .ok c) : c.FitsTables op sel := by
  unfold soloCommand at h
  split_ifs at h with hs
  cases h
  refine ⟨.inr (.inr ⟨hop, hs⟩), ?_, fun d => ?_⟩
  · simp [TakesKey, Form.takesKey, hs]
  · rw [dataRule_zero_ok_toNat]
    unfold IsSoloOp at hop
    unfold DataInRange
    omega

theorem setCommand_fits (sel : Nat) (c : Command) (h : setCommand sel = .ok c) : c.FitsTables 0x21 sel := by
  unfold setCommand at h
  split at h
  all_goals cases h
  all_goals
    refine ⟨by simp [SelInRange, IsFieldOp], by simp [TakesKey, IsGroupOp, IsFieldOp, Form.takesKey], fun d => ?_⟩
    have hd := d.isLt
    simp [Machine.dataRule_bits_ok, dataRule_zero_ok_toNat, DataInRange, setDataMax] <;> omega

theorem getCommand_fits (sel : Nat) (c : Command) (h : getCommand sel = .ok c) : c.FitsTables 0x30 sel := by
  unfold getCommand at h
  split at h
  all_goals cases h
  all_goals
    refine ⟨by simp [SelInRange, IsFieldOp], by simp [TakesKey, IsGroupOp, IsFieldOp, Form.takesKey], fun d => ?_⟩
    simp [dataRule_zero_ok_toNat, DataInRange]

/-- Every row of the tables is as `FitsTables` reads them. -/
theorem lookup_fits (op sel : Nat) (c : Command) (h : lookup op sel = .ok c) : c.FitsTables op sel := by
  unfold lookup at h
  split at h
  case h_1 | h_6 => exact regCommand_fits _ .any _ sel c (by simp [IsGroupOp]) (by simp [DataInRange]) h
  case h_2 | h_3 | h_5 =>
    exact regCommand_fits _ .zero _ sel c (by simp [IsGroupOp]) (by simp [DataInRange, dataRule_zero_ok_toNat]) h
  case h_4 | h_9 | h_10 | h_11 => exact soloCommand_fits _ _ sel c (by simp [IsSoloOp]) h
  case h_7 => exact setCommand_fits sel c h
  case h_8 => exact getCommand_fits sel c h
  case h_12 => cases h

theorem regCommand_ok (mk : Reg → Byte → Instr) (rule : DataRule) (sel : Nat) (h : sel ≤ 0x0F) :
    ∃ c, regCommand mk rule sel = .ok c := by
  interval_cases sel <;> exact ⟨_, rfl⟩

/-- An OP of the table with a SEL in its range selects a command. -/
theorem lookup_ok_of_selInRange (op sel : Nat) (h : SelInRange op sel) : ∃ c, lookup op sel = .ok c := by
  obtain ⟨hop, hs⟩ | ⟨hop, hs⟩ | ⟨hop, rfl⟩ := h
  · obtain rfl | rfl | rfl | rfl | rfl := hop
    all_goals exact regCommand_ok _ _ sel hs
  · obtain rfl | rfl := hop
    all_goals interval_cases sel
    all_goals exact ⟨_, rfl⟩
  · obtain rfl | rfl | rfl | rfl := hop
    all_goals exact ⟨_, rfl⟩

/-- An OP and a SEL that select no command make a word illegal, not out of the key range. -/
theorem lookup_error_illegal (op sel : Nat) (e : DecodeError) (h : lookup op sel = .error e) :
    Machine.rejectionCause e = .illegal := by
  simp only [lookup, regCommand, soloCommand, setCommand, getCommand] at h
  split at h
  all_goals repeat' split at h
  all_goals cases h
  all_goals rfl

/-- KEY and DATA make a selected command illegal where a key stands that is not taken, or DATA is not legal. -/
theorem complete_illegal_iff (c : Command) (key d : Byte) :
    (∃ e, c.complete key d = .error e ∧ Machine.rejectionCause e = .illegal) ↔
      (c.form.takesKey = false ∧ key ≠ 0#8) ∨ c.data.ok d = false := by
  obtain ⟨f | f, rule⟩ := c
  · by_cases hk : key = 0#8 <;> cases hd : rule.ok d <;>
      simp [Command.complete, Form.takesKey, Machine.rejectionCause, hk, hd]
  · by_cases hk : key.toNat < 7 <;> cases hd : rule.ok d <;>
      simp [Command.complete, Form.takesKey, Machine.rejectionCause, hk, hd]

/-- R109's list is the words that decoding rejects as illegal. -/
theorem illegalWord_iff (w : Word) :
    IllegalWord w ↔ ∃ e, decode w = .error e ∧ Machine.rejectionCause e = .illegal := by
  cases h : lookup (opField w).toNat (selField w).toNat with
  | error e =>
    have hsel : ¬ SelInRange (opField w).toNat (selField w).toNat := by
      intro hsel
      obtain ⟨c, hc⟩ := lookup_ok_of_selInRange _ _ hsel
      cases h.symm.trans hc
    have hill := lookup_error_illegal _ _ e h
    simp [IllegalWord, hsel, decode, h, hill]
  | ok c =>
    obtain ⟨hsel, hkey, hdata⟩ := lookup_fits _ _ c h
    have hzero : (keyField w).toNat ≠ 0 ↔ keyField w ≠ 0#8 := by simp [← BitVec.toNat_inj]
    have hdec : decode w = c.complete (keyField w) (dataField w) := by simp [decode, h]
    rw [hdec, complete_illegal_iff, IllegalWord, ← hkey, ← hdata, hzero]
    simp [hsel]

end Sys2Proof

/-! One step and one response (30_encoding.md R108, R120, R124). -/

namespace Sys2Proof.Machine

open Sys2Proof.Safety

/-! ### A step with the reset input off -/

theorem fetch_of_off (s : State) (h : s.resetNow = .off) : fetch s = nextCommand s := by simp [fetch, h]

/-- What an idle RCD does with the word presented. -/
theorem fetch_of_presents (s : State) (w : Word) (rest : List Word) (h : Presents s w rest) :
    fetch s = accept w (s.listen.take rest) := by
  obtain ⟨hp, hc, hoff⟩ := h
  simp [fetch_of_off s hoff, nextCommand, hp, hc]

theorem step_of_presents_ok (s : State) (w : Word) (rest : List Word) (i : Instr) (h : Presents s w rest)
    (hd : decode w = .ok i) : step s = exec i (s.listen.take rest) :=
  step_of_runs s _ i (by simp [fetch_of_presents s w rest h, accept, hd])

theorem step_of_presents_error (s : State) (w : Word) (rest : List Word) (e : DecodeError) (h : Presents s w rest)
    (hd : decode w = .error e) : step s = .next (raise (rejectionCause e) (s.listen.take rest)) :=
  step_of_ends s _ (by simp [fetch_of_presents s w rest h, accept, hd])

theorem rejected_raise_illegal (s : State) : Rejected s (raise .illegal s) .errIllegal :=
  ⟨rfl, rfl, rfl, rfl, rfl, _, rfl⟩

/-- Settles O4: `illegalWord_iff`, and the step of a rejected word. -/
theorem illegalWordsEndWithErrIllegal : Obligations.IllegalWordsEndWithErrIllegal := by
  refine ⟨illegalWord_iff, ?_, ?_, ?_⟩
  · intro s w rest hp hw
    obtain ⟨e, hd, hcause⟩ := (illegalWord_iff w).mp hw
    have hstep := step_of_presents_error s w rest e hp hd
    rw [hcause] at hstep
    exact ⟨_, hstep, rejected_raise_illegal (s.listen.take rest), rfl⟩
  · exact (illegalWord_iff _).mpr ⟨.unknownOp, rfl, rfl⟩
  · exact (illegalWord_iff _).mpr ⟨.unknownOp, rfl, rfl⟩

/-- Settles O1: fifteen closed words. -/
theorem specExampleWordsDecode : Obligations.SpecExampleWordsDecode :=
  ⟨rfl, rfl, rfl, rfl, rfl, rfl, rfl, rfl, rfl, rfl, rfl, rfl, rfl, rfl, rfl⟩

/-- Settles O6: `step_of_presents_ok`, its state written out. -/
theorem stepRunsDecodedCommand : Obligations.StepRunsDecodedCommand := step_of_presents_ok

/-- Settles O7: a polling RCD looks at no word. -/
theorem stepWhilePollingPollsAgain : Obligations.StepWhilePollingPollsAgain := by
  intro s hp hoff
  exact step_of_runs s s.listen .wcal (by simp [fetch_of_off s hoff, nextCommand, hp])

/-- Settles O10: an idle RCD without a word ends its turn as it began. -/
theorem idleStepOnlyClearsTheResponse : Obligations.IdleStepOnlyClearsTheResponse := by
  intro s hp hc hoff
  exact step_of_ends s s.listen (by simp [fetch_of_off s hoff, nextCommand, hp, hc])

/-! ### Operands that do not fit (R107; 42_write.md R212) -/

theorem rejected_checkedWrite_oversized (n : Nat) (v : Byte) (r : Reg) (upd : Mirror → Mirror) (s : State)
    (h : 2 ^ n ≤ v.toNat) : Rejected s (checkedWrite (.bits n) v r upd s) .errIllegal := by
  have hbad : (DataRule.bits n).ok v = false := by
    rw [← Bool.not_eq_true, dataRule_bits_ok]
    exact Nat.not_lt.mpr h
  rw [checkedWrite_illegal _ _ _ _ _ hbad]
  exact rejected_raise_illegal s

/-- Settles O39: each of the six setters checks its operand first. -/
theorem oversizedOperandIsRefused : Obligations.OversizedOperandIsRefused := by
  intro k v s
  exact ⟨fun h => ⟨_, rfl, rejected_checkedWrite_oversized 6 v _ _ s h⟩,
    fun h => ⟨_, rfl, rejected_checkedWrite_oversized 2 v _ _ s h⟩,
    fun h => ⟨_, rfl, rejected_checkedWrite_oversized 6 v _ _ s h⟩,
    fun h => ⟨_, rfl, rejected_checkedWrite_oversized 1 v _ _ s h⟩,
    fun h => ⟨_, rfl, rejected_checkedWrite_oversized 1 v _ _ s h⟩,
    fun h => ⟨_, rfl, rejected_checkedWrite_oversized 4 v _ _ s h⟩⟩

/-! ### One response per command (R120, R124) -/

/-- The command has ended: RCD is idle with a response, and an error answers nothing else. -/
def Ended (t : State) : Prop :=
  t.polling = false ∧ ∃ r, t.response = some r ∧ (r.status ≠ .ok → r.data = 0 ∧ r.flag = false)

theorem ended_respond (d : Half) (f : Bool) (s : State) : Ended (respond d f s) := ⟨rfl, _, rfl, fun h => absurd rfl h⟩

theorem ended_raise (c : Cause) (s : State) : Ended (raise c s) := ⟨rfl, _, rfl, fun _ => ⟨rfl, rfl⟩⟩

theorem ended_writeThrough (r : Reg) (upd : Mirror → Mirror) (s : State) : Ended (writeThrough r upd s) := by
  cases h : s.nextReply with
  | ok bs => rw [writeThrough_ok r upd s bs h]; exact ended_respond _ _ _
  | err e => rw [writeThrough_err r upd s e h]; exact ended_raise _ _

theorem ended_execSynca (s t : State) (h : execSynca s = .next t) : Ended t := by
  cases hr : s.nextReply with
  | ok buf => rw [execSynca_ok s buf hr] at h; cases h; exact ended_respond _ _ _
  | err e => rw [execSynca_err s e hr] at h; cases h; exact ended_raise _ _

theorem ended_execSync1 (r : Reg) (s t : State) (h : execSync1 r s = .next t) : Ended t := by
  cases hr : s.nextReply with
  | ok buf => rw [execSync1_ok r s buf hr] at h; cases h; exact ended_respond _ _ _
  | err e => rw [execSync1_err r s e hr] at h; cases h; exact ended_raise _ _

/-- A poll of WCAL ends it, or leaves it polling without a response. -/
theorem execWcal_ends_or_polls (s t : State) (h : execWcal s = .next t) :
    Ended t ∨ (t.polling = true ∧ t.response = none) := by
  cases hr : s.nextReply with
  | err e => rw [execWcal_err s e hr] at h; cases h; exact .inl (ended_raise _ _)
  | ok buf =>
    cases hb : buf[0].getLsbD 7
    · rw [execWcal_clear s buf hr hb] at h; cases h; exact .inl (ended_respond _ _ _)
    · rw [execWcal_busy s buf hr hb] at h; cases h; exact .inr ⟨rfl, rfl⟩

/-- Settles O57: every shape of command ends, but for a poll of WCAL that reads "calibrating". -/
theorem oneResponsePerCommand : Obligations.OneResponsePerCommand := by
  intro i s t h
  rcases exec_cases i s with ⟨d, f, he, -⟩ | ⟨r, b, rfl⟩ | ⟨-, he⟩ | ⟨r, upd, -, -, -, he⟩ | rfl | ⟨r, rfl⟩ | rfl
  · cases he.symm.trans h; exact .inl (ended_respond d f s)
  · cases h; exact .inl (ended_respond _ _ _)
  · cases he.symm.trans h; exact .inl (ended_raise .illegal s)
  · cases he.symm.trans h; exact .inl (ended_writeThrough r upd s)
  · exact .inl (ended_execSynca s t h)
  · exact .inl (ended_execSync1 r s t h)
  · exact (execWcal_ends_or_polls s t h).imp_right fun hp => ⟨rfl, hp⟩

end Sys2Proof.Machine

/-! The host's sequences RD and MUT (30_encoding.md R113). -/

namespace Sys2Proof.Machine

open Sys2Proof.Safety

/-! ### RD of a composite: two reads, then the getter -/

theorem issue_sync1_ok (r : Reg) (rest : Sequence) (s : State) (buf : Vector Byte 58) (h : s.nextReply = .ok buf) :
    issue (always (.sync1 r) :: rest) s =
      issue rest (respond (zext16 ((s.mirror.decode r buf[0]).encode r)) false
        ((s.record (readEvent (addressOf r) 1 (.ok buf))).setMirror (s.mirror.decode r buf[0]))) :=
  issue_ok _ _ _ _ (execSync1_ok r s buf h) rfl

theorem issue_sync1_err (r : Reg) (rest : Sequence) (s : State) (e : TErr) (h : s.nextReply = .err e) :
    issue (always (.sync1 r) :: rest) s =
      .next (raise (.transport e) (s.record (readEvent (addressOf r) 1 (.err e)))) :=
  issue_stops _ _ _ _ (execSync1_err r s e h) rfl

section
variable (r r' : Reg) (rest : Sequence) (s : State) (more : List DeviceReply)

/-- Two reads that succeed are followed by the rest of the sequence. -/
theorem issue_twoReads_ok (b b' : Vector Byte 58) (h : s.replies = .ok b :: .ok b' :: more) :
    ∃ t, issue (always (.sync1 r) :: always (.sync1 r') :: rest) s = issue rest t ∧
      t.mirror = (s.mirror.decode r b[0]).decode r' b'[0] ∧
      t.history = s.history ++ [readEvent (addressOf r) 1 (.ok b), readEvent (addressOf r') 1 (.ok b')] := by
  rw [issue_sync1_ok r _ s b (nextReply_scripted s _ _ h),
    issue_sync1_ok r' _ _ b' (nextReply_scripted _ _ more (by simp [h]))]
  exact ⟨_, rfl, rfl, by simp⟩

/-- A second read that fails ends the sequence; the first has changed the mirror. -/
theorem issue_twoReads_err (b : Vector Byte 58) (e : TErr) (h : s.replies = .ok b :: .err e :: more) :
    ∃ t, issue (always (.sync1 r) :: always (.sync1 r') :: rest) s = .next t ∧ FailedWith t e ∧
      t.mirror = s.mirror.decode r b[0] ∧
      t.history = s.history ++ [readEvent (addressOf r) 1 (.ok b), readEvent (addressOf r') 1 (.err e)] := by
  rw [issue_sync1_ok r _ s b (nextReply_scripted s _ _ h),
    issue_sync1_err r' _ _ e (nextReply_scripted _ _ more (by simp [h]))]
  exact ⟨_, rfl, ⟨rfl, rfl⟩, rfl, by simp⟩

/-- A first read that fails ends the sequence at once. -/
theorem issue_read_err (e : TErr) (h : s.replies = .err e :: more) :
    ∃ t, issue (always (.sync1 r) :: rest) s = .next t ∧ FailedWith t e ∧ t.mirror = s.mirror ∧
      t.history = s.history ++ [readEvent (addressOf r) 1 (.err e)] := by
  rw [issue_sync1_err r _ s e (nextReply_scripted s _ _ h)]
  exact ⟨_, rfl, ⟨rfl, rfl⟩, rfl, rfl⟩

end

/-! Both halves of a composite, decoded MS first. -/

theorem decode_keySignal_halves (m : Mirror) (k : Key) (a b : Byte) :
    (m.decode (.keySignalMs k) a).decode (.keySignalLs k) b = { m with keySignal := m.keySignal.set k (a ++ b) } := by
  simp [Mirror.decode, half_high]

theorem decode_referenceData_halves (m : Mirror) (k : Key) (a b : Byte) :
    (m.decode (.referenceDataMs k) a).decode (.referenceDataLs k) b =
      { m with referenceData := m.referenceData.set k (a ++ b) } := by
  simp [Mirror.decode, half_high]

/-- Settles O46: the two reads by their replies, then the getter on the mirror they leave. -/
theorem freshSignalAndReferenceReads : Obligations.FreshSignalAndReferenceReads := by
  intro k s more
  refine ⟨fun ms ls h => ⟨?_, ?_⟩, fun ms e h => ⟨?_, ?_⟩, fun e h => ⟨?_, ?_⟩⟩
  · obtain ⟨t, ht, hm, hh⟩ := issue_twoReads_ok (.keySignalMs k) (.keySignalLs k) [always (.getSignal k)] s more ms ls h
    rw [decode_keySignal_halves] at hm
    exact ⟨respond (t.mirror.keySignal[k]) false t, ht, ⟨rfl, _, by simp [hm]; rfl⟩, hm, hh⟩
  · obtain ⟨t, ht, hm, hh⟩ :=
      issue_twoReads_ok (.referenceDataMs k) (.referenceDataLs k) [always (.getRef k)] s more ms ls h
    rw [decode_referenceData_halves] at hm
    exact ⟨respond (t.mirror.referenceData[k]) false t, ht, ⟨rfl, _, by simp [hm]; rfl⟩, hm, hh⟩
  · exact issue_twoReads_err _ _ _ s more ms e h
  · exact issue_twoReads_err _ _ _ s more ms e h
  · exact issue_read_err _ _ s more e h
  · exact issue_read_err _ _ s more e h

/-! ### MUT: the bits of an edited register -/

/-- One edit of MUT on the mirror. -/
def Slice.edit (v : Half) (m : Mirror) (sl : Slice) : Mirror := m.decode sl.reg (sl.put (m.encode sl.reg) v)

/-- The slice stands inside its byte, on defined bits. -/
abbrev Slice.Fits (sl : Slice) : Prop :=
  sl.lo + sl.width ≤ 8 ∧ ∀ i : Fin 8, sl.lo ≤ i → i < sl.lo + sl.width → (definedBits sl.reg).getLsbD i = true

/-- The bit `i` of the byte of `r` is one of the slice's. -/
abbrev Slice.Holds (sl : Slice) (r : Reg) (i : Nat) : Prop := r = sl.reg ∧ sl.lo ≤ i ∧ i < sl.lo + sl.width

/-- Decoding a register from its own byte changes nothing (40_codec.md R174). -/
theorem decode_encode_self (m : Mirror) (r : Reg) : m.decode r (m.encode r) = m := by
  have status := status_split m.dsCalibrate m.dsOverflow m.dsTouch
  have guard := foMcGuard_split m.fastOut m.maxCal m.guardChannel
  cases r
  all_goals simp only [Mirror.decode, Mirror.encode, nibbles_split, keys_split, aveAks_split, half_join, status, guard,
    Fin.getElem_fin, Vector.set_getElem_self]

/-- The byte of a register has its reserved bits clear (40_codec.md R174). -/
theorem encode_and_definedBits (m : Mirror) (r : Reg) : m.encode r &&& definedBits r = m.encode r := by
  rw [← encode_decode_same m, decode_encode_self]

/-- An edit changes the slice's bits of the slice's register, and no other bit of the mirror. -/
theorem encode_edit_getLsbD (sl : Slice) (v : Half) (m : Mirror) (r : Reg) (i : Nat) (h : sl.Fits) :
    ((sl.edit v m).encode r).getLsbD i =
      if sl.Holds r i then v.getLsbD (sl.src + (i - sl.lo)) else (m.encode r).getLsbD i := by
  obtain ⟨hbyte, hdefined⟩ := h
  by_cases hr : r = sl.reg
  case neg => simp [Slice.edit, encode_decode_of_ne _ _ _ _ hr, hr]
  subst hr
  by_cases hi : i < 8
  case neg =>
    have hout : ¬ sl.Holds sl.reg i := fun ⟨_, _, hlt⟩ => by omega
    rw [if_neg hout, BitVec.getLsbD_of_ge _ _ (by omega), BitVec.getLsbD_of_ge _ _ (by omega)]
  rw [Slice.edit, encode_decode_same, BitVec.getLsbD_and, slice_put_getLsbD sl _ v hbyte i hi]
  by_cases hs : sl.lo ≤ i ∧ i < sl.lo + sl.width
  · simp [hs, hdefined ⟨i, hi⟩ hs.1 hs.2]
  · rw [if_neg hs, if_neg fun hh => hs hh.2, ← BitVec.getLsbD_and, encode_and_definedBits]

theorem slices_fit (f : FieldId) : ∀ sl ∈ f.slices, sl.Fits := by
  cases f
  case keytouch k | signal k | ref k | nthr k | ave k | aks k | di k => revert k; decide
  all_goals decide

theorem slices_reg_nodup (f : FieldId) : (f.slices.map Slice.reg).Nodup := by
  cases f <;> simp [FieldId.slices]

theorem slices_cover (f : FieldId) : ∀ j < f.width, ∃ sl ∈ f.slices, sl.src ≤ j ∧ j < sl.src + sl.width := by
  cases f
  case keytouch k | signal k | ref k | nthr k | ave k | aks k | di k => revert k; decide
  all_goals decide

section
variable (v : Half)

/-- A bit outside every slice is kept by their edits. -/
theorem encode_edits_of_outside (sls : List Slice) (m : Mirror) (r : Reg) (i : Nat) (hfit : ∀ sl ∈ sls, sl.Fits)
    (hout : ∀ sl ∈ sls, ¬ sl.Holds r i) :
    ((sls.foldl (Slice.edit v) m).encode r).getLsbD i = (m.encode r).getLsbD i := by
  induction sls generalizing m with
  | nil => rfl
  | cons sl sls ih =>
    rw [List.forall_mem_cons] at hfit hout
    rw [List.foldl_cons, ih _ hfit.2 hout.2, encode_edit_getLsbD sl v m r i hfit.1, if_neg hout.1]

/-- A slice among several, of registers all different, has the bits of `v` after their edits. -/
theorem encode_edits_of_mem (sls : List Slice) (m : Mirror) (hfit : ∀ sl ∈ sls, sl.Fits)
    (hreg : (sls.map Slice.reg).Nodup) (sl : Slice) (hsl : sl ∈ sls) (i : Nat) (hi : i < sl.width) :
    ((sls.foldl (Slice.edit v) m).encode sl.reg).getLsbD (sl.lo + i) = v.getLsbD (sl.src + i) := by
  induction sls generalizing m with
  | nil => cases hsl
  | cons first sls ih =>
    rw [List.forall_mem_cons] at hfit
    rw [List.map_cons, List.nodup_cons] at hreg
    obtain rfl | hsl := List.mem_cons.mp hsl
    · have hother : ∀ other ∈ sls, ¬ other.Holds sl.reg (sl.lo + i) := fun other ho hh =>
        hreg.1 (hh.1 ▸ List.mem_map_of_mem ho)
      have hin : sl.Holds sl.reg (sl.lo + i) := ⟨rfl, by omega, by omega⟩
      rw [List.foldl_cons, encode_edits_of_outside v sls _ _ _ hfit.2 hother, encode_edit_getLsbD sl v m _ _ hfit.1,
        if_pos hin, Nat.add_sub_cancel_left]
    · exact ih _ hfit.2 hreg.2 hsl

/-- The commands of MUT edit the slices one by one, with no bus traffic. -/
theorem issue_edits (sls : List Slice) (s : State) :
    ∃ t, issue (sls.flatMap fun sl => [always (.enc sl.reg), fun d => .dec sl.reg (sl.put (d.setWidth 8) v)]) s =
        .next t ∧
      t.mirror = sls.foldl (Slice.edit v) s.mirror ∧ NoTraffic s t ∧
      (sls ≠ [] ∨ endedOk s = true → endedOk t = true) := by
  induction sls generalizing s with
  | nil => exact ⟨s, rfl, rfl, ⟨rfl, rfl, rfl, rfl, rfl⟩, fun h => by simpa using h⟩
  | cons sl sls ih =>
    rw [List.flatMap_cons]
    obtain ⟨t, ht, hm, hn, hok⟩ := ih (respond (zext16 ((sl.edit v s.mirror).encode sl.reg)) false
      ((respond (zext16 (s.mirror.encode sl.reg)) false s).setMirror (sl.edit v s.mirror)))
    exact ⟨t, (issue_edit sl v _ s).trans ht, hm, hn, fun _ => hok (.inr rfl)⟩

end

/-! ### The getter of a field reads the field's bits -/

/-- `d` is the field's value in the mirror: the slices' bits, and no bit above the field's width. -/
def FieldId.Shows (f : FieldId) (m : Mirror) (d : Half) : Prop :=
  d.toNat < 2 ^ f.width ∧
  ∀ sl ∈ f.slices, ∀ i < sl.width, d.getLsbD (sl.src + i) = (m.encode sl.reg).getLsbD (sl.lo + i)

theorem zext16_getLsbD {n : Nat} (x : BitVec n) (hn : n ≤ 16) (i : Nat) : (zext16 x).getLsbD i = x.getLsbD i := by
  rw [zext16, BitVec.getLsbD_setWidth]
  by_cases hi : i < 16
  · simp [hi]
  · simp [hi, BitVec.getLsbD_of_ge x i (by omega)]

section
variable (f : FieldId) (m : Mirror)

/-- A field of one slice, read as the slice's bits of the register byte. -/
theorem shows_slice (r : Reg) (lo n : Nat) (x : BitVec n) (hf : f.slices = [⟨r, lo, n, 0⟩]) (hn : n ≤ 16)
    (hx : (m.encode r).extractLsb' lo n = x) : f.Shows m (zext16 x) := by
  constructor
  · rw [FieldId.width, hf, zext16, BitVec.toNat_setWidth]
    exact (Nat.mod_le _ _).trans_lt (by simpa using x.isLt)
  · intro sl hsl i hi
    rw [hf, List.mem_singleton] at hsl
    subst hsl
    have hi : i < n := hi
    rw [zext16_getLsbD x hn, ← hx, BitVec.getLsbD_extractLsb']
    simp [hi]

/-- A field of one bit. -/
theorem shows_bit (r : Reg) (lo : Nat) (b : Bool) (hf : f.slices = [⟨r, lo, 1, 0⟩]) (hb : (m.encode r).getLsbD lo = b) :
    f.Shows m (zextBit b) := by
  refine shows_slice f m r lo 1 (BitVec.ofBool b) hf (by decide) ?_
  apply BitVec.eq_of_getLsbD_eq
  intro i hi
  obtain rfl : i = 0 := by omega
  simpa [BitVec.getLsbD_extractLsb'] using hb

/-- A field that is a whole register. -/
theorem shows_byte (r : Reg) (b : Byte) (hf : f.slices = [⟨r, 0, 8, 0⟩]) (hb : m.encode r = b) :
    f.Shows m (zext16 b) := shows_slice f m r 0 8 b hf (by decide) (BitVec.extractLsb'_eq_self.trans hb)

/-- A field of two registers. -/
theorem shows_halves (r r' : Reg) (x : Half) (hf : f.slices = [⟨r, 0, 8, 8⟩, ⟨r', 0, 8, 0⟩])
    (hr : m.encode r = x.extractLsb' 8 8) (hr' : m.encode r' = x.extractLsb' 0 8) : f.Shows m x := by
  constructor
  · rw [FieldId.width, hf]
    exact x.isLt
  · simp +contextual [hf, hr, hr']

end

theorem exec_get_shows (f : FieldId) (t : State) :
    ∃ d b, exec f.get t = .next (respond d b t) ∧ f.Shows t.mirror d := by
  have status := status_split t.mirror.dsCalibrate t.mirror.dsOverflow t.mirror.dsTouch
  have guard := foMcGuard_split t.mirror.fastOut t.mirror.maxCal t.mirror.guardChannel
  obtain ⟨hcalibrate, hoverflow, htouch⟩ := status
  obtain ⟨hfo, hmc, hguard⟩ := guard
  cases f
  all_goals refine ⟨_, _, rfl, ?_⟩
  case fw | nthr | di | lp | maxon | cal | rst => exact shows_byte _ _ _ _ rfl rfl
  case major => exact shows_slice _ _ _ 4 4 _ rfl (by decide) (nibbles_split _ _).1
  case minor => exact shows_slice _ _ _ 0 4 _ rfl (by decide) (nibbles_split _ _).2
  case keys => exact shows_slice _ _ _ 0 7 _ rfl (by decide) (keys_split _)
  case ave k => exact shows_slice _ _ (.aveAks k) 2 6 _ rfl (by decide) (aveAks_split _ _).1
  case aks k => exact shows_slice _ _ (.aveAks k) 0 2 _ rfl (by decide) (aveAks_split _ _).2
  case guard => exact shows_slice _ _ _ 0 4 _ rfl (by decide) hguard
  case calibrating => exact shows_bit _ _ _ 7 _ rfl hcalibrate
  case overflow => exact shows_bit _ _ _ 6 _ rfl hoverflow
  case touch => exact shows_bit _ _ _ 0 _ rfl htouch
  case fo => exact shows_bit _ _ _ 5 _ rfl hfo
  case mc => exact shows_bit _ _ _ 4 _ rfl hmc
  case keytouch k =>
    refine shows_bit _ _ .keyStatus k.val _ rfl ?_
    rw [encode_keyStatus, BitVec.getLsbD_append, if_pos k.isLt, Mirror.keyTouchAt]
  case signal k | ref k => exact shows_halves _ _ _ _ _ rfl rfl rfl
  case fmg =>
    constructor
    · rw [zext16, BitVec.toNat_setWidth]
      exact (Nat.mod_le _ _).trans_lt (encode_lt_of_address _ .foMcGuard rfl)
    · simp [FieldId.slices, zext16_getLsbD]

/-- A value that fits the field, and whose bits stand in the field's slices, is the one the mirror shows. -/
theorem eq_of_shows (f : FieldId) (m : Mirror) (d v : Half) (hd : f.Shows m d) (hv : v.toNat < 2 ^ f.width)
    (hbits : ∀ sl ∈ f.slices, ∀ i < sl.width, (m.encode sl.reg).getLsbD (sl.lo + i) = v.getLsbD (sl.src + i)) :
    d = v := by
  obtain ⟨hlt, hshow⟩ := hd
  apply BitVec.eq_of_getLsbD_eq
  intro j _
  by_cases hj : j < f.width
  · obtain ⟨sl, hsl, hlo, hhi⟩ := slices_cover f j hj
    obtain ⟨i, rfl⟩ := Nat.exists_eq_add_of_le hlo
    rw [hshow sl hsl i (by omega), hbits sl hsl i (by omega)]
  · have habove : 2 ^ f.width ≤ 2 ^ j := Nat.pow_le_pow_right (by decide) (by omega)
    rw [BitVec.getLsbD, BitVec.getLsbD, Nat.testBit_lt_two_pow (hlt.trans_le habove),
      Nat.testBit_lt_two_pow (hv.trans_le habove)]

/-- Settles O47: MUT edits the field's slices one by one; bit by bit the byte of each register is then known, and the
getter shows it. -/
theorem mutChangesTheFieldsBitsOnly : Obligations.MutChangesTheFieldsBitsOnly := by
  intro f v s hv
  obtain ⟨t, ht, hm, hn, hok⟩ := issue_edits v f.slices s
  have hin : ∀ sl ∈ f.slices, ∀ i < sl.width,
      (t.mirror.encode sl.reg).getLsbD (sl.lo + i) = v.getLsbD (sl.src + i) := by
    intro sl hsl i hi
    rw [hm]
    exact encode_edits_of_mem v f.slices _ (slices_fit f) (slices_reg_nodup f) sl hsl i hi
  refine ⟨t, ht, hok (.inl (by cases f <;> simp [FieldId.slices])), hn, hin, ?_, ?_⟩
  · intro r i hout
    rw [hm]
    refine encode_edits_of_outside v f.slices _ r i (slices_fit f) fun sl hsl ⟨hr, hlo, hhi⟩ => ?_
    have := hout sl hsl hr.symm
    omega
  · obtain ⟨d, b, hget, hshow⟩ := exec_get_shows f t
    obtain rfl := eq_of_shows f t.mirror d v hshow hv hin
    exact ⟨_, b, hget, rfl, _, rfl⟩

end Sys2Proof.Machine

/-! The register codec (40_codec.md): the round trip and the frame of a decode, the address map, and each register's
byte and fields in numbers. -/

namespace Sys2Proof.Machine

open Sys2Proof.Safety

/-! ### The laws of the codec (40_codec.md R174, R175) -/

/-- Only three groups have reserved bits. -/
theorem definedBits_eq_all (r : Reg) (hstatus : r ≠ .detectionStatus) (hkeys : r ≠ .keyStatus)
    (hguard : r ≠ .foMcGuard) : definedBits r = 0xFF := by
  cases r
  case detectionStatus => exact absurd rfl hstatus
  case keyStatus => exact absurd rfl hkeys
  case foMcGuard => exact absurd rfl hguard
  all_goals rfl

/-- Settles O14: both directions of the round trip, and the masks group by group. -/
theorem roundTripLaw : Obligations.RoundTripLaw :=
  ⟨encode_decode_same, decode_encode_self, rfl, rfl, rfl, definedBits_eq_all⟩

/-- Key k's flag is bit k of the KeyStatus byte (R134). -/
theorem keyTouchAt_decode_keyStatus (m : Mirror) (b : Byte) (k : Key) :
    (m.decode .keyStatus b).keyTouchAt k = b.getLsbD k := by
  have hk : k.val < 7 := k.isLt
  simp [decode_keyStatus, Mirror.keyTouchAt, hk]

/-- Settles O15: bytes of other registers by `encode_decode_of_ne`; the sub-fields of one register are fields of their
own in the mirror. -/
theorem decodeFrameLaw : Obligations.DecodeFrameLaw :=
  ⟨encode_decode_of_ne, fun _ _ _ => ⟨rfl, rfl, ⟨rfl, rfl⟩, ⟨rfl, rfl⟩, rfl, rfl⟩,
    keyTouchAt_decode_keyStatus⟩

/-! ### The address map (40_codec.md R170, R171) -/

/-- `regOf` finds a register back from its address, so no two registers share one. -/
theorem addressOf_injective (r r' : Reg) (h : addressOf r = addressOf r') : r = r' :=
  (regOf_eq_of_address r ⟨_, addressOf_lt r'⟩ (congrArg BitVec.toNat h)).symm.trans (regOf_addressOf r')

/-- Settles O17: the scalar groups by their table, the per-key ones by base and stride. -/
theorem addressOfTable : Obligations.AddressOfTable := by
  refine ⟨⟨rfl, rfl, rfl, rfl, rfl, rfl, rfl, rfl, rfl⟩, fun k => ?_, addressOf_injective, addressOf_le⟩
  obtain ⟨⟨hsm, hsl⟩, ⟨hrm, hrl⟩, hthreshold, haveAks, hintegrator⟩ := addressOf_perKey k
  exact ⟨hsm, hsl, hrm, hrl, hthreshold, haveAks, hintegrator⟩

/-- A group whose register of key k stands at `base + 2 * k` takes every second address from `base` on. -/
theorem exists_key_of_stride_two (f : Key → Reg) (base : Nat)
    (hf : ∀ k : Key, (addressOf (f k)).toNat = base + 2 * k.val) (a : Fin 58) (hlo : base ≤ a.val)
    (hhi : a.val < base + 14) (hpar : a.val % 2 = base % 2) :
    ∃ k : Key, regOf a = f k ∧ k.val = (a.val - base) / 2 := by
  refine ⟨⟨(a.val - base) / 2, by omega⟩, regOf_eq_of_address _ a ?_, rfl⟩
  have heven : base + 2 * ((a.val - base) / 2) = a.val := by omega
  exact (hf _).trans heven

/-- Settles O18: a register stands at `a` if its address is `a`; in each range the address gives the key. -/
theorem regOfInvertsAddressOf : Obligations.RegOfInvertsAddressOf := by
  have haddress := addressOf_perKey
  simp only [forall_and] at haddress
  obtain ⟨⟨hsm, hsl⟩, ⟨hrm, hrl⟩, hthreshold, haveAks, hintegrator⟩ := haddress
  refine ⟨regOf_eq_of_address, addressOf_regOf, ⟨rfl, rfl, rfl, rfl⟩,
    fun a hlo hhi => ⟨fun hpar => ?_, fun hpar => ?_⟩, fun a hlo hhi => ⟨fun hpar => ?_, fun hpar => ?_⟩,
    fun k => ⟨fun a ha => ?_, fun a ha => ?_, fun a ha => ?_⟩,
    rfl, rfl, rfl, rfl, rfl⟩
  · exact exists_key_of_stride_two .keySignalMs 0x04 hsm a (by omega) (by omega) hpar
  · exact exists_key_of_stride_two .keySignalLs 0x05 hsl a (by omega) (by omega) hpar
  · exact exists_key_of_stride_two .referenceDataMs 0x12 hrm a (by omega) (by omega) hpar
  · exact exists_key_of_stride_two .referenceDataLs 0x13 hrl a (by omega) (by omega) hpar
  · exact regOf_eq_of_address _ a ((hthreshold k).trans ha.symm)
  · exact regOf_eq_of_address _ a ((haveAks k).trans ha.symm)
  · exact regOf_eq_of_address _ a ((hintegrator k).trans ha.symm)

/-! ### Fields and bytes in numbers (40_codec.md R131 to R146, R151 to R166) -/

/-- A bit of a byte by quotient and remainder. -/
theorem getLsbD_eq_decide (b : Byte) (i : Nat) : b.getLsbD i = decide (b.toNat / 2 ^ i % 2 = 1) :=
  Nat.testBit_eq_decide_div_mod_eq

/-- A run of bits of a byte by quotient and remainder. -/
theorem extract_toNat (b : Byte) (lo n : Nat) : (b.extractLsb' lo n).toNat = b.toNat / 2 ^ lo % 2 ^ n := by
  rw [BitVec.extractLsb'_toNat, Nat.shiftRight_eq_div_pow]

theorem getLsbD_zero (b : Byte) : b.getLsbD 0 = decide (b.toNat % 2 = 1) := by
  rw [getLsbD_eq_decide, Nat.pow_zero, Nat.div_one]

theorem getLsbD_seven (b : Byte) : b.getLsbD 7 = decide (128 ≤ b.toNat) := by
  rw [getLsbD_eq_decide, decide_eq_decide]
  omega

/-- The entry of key k, after it was set. -/
theorem getElem_set_key {α : Type} (xs : Vector α 7) (k : Key) (x : α) : (xs.set k x)[k] = x := by simp

/-- The entry of another key. -/
theorem getElem_set_other {α : Type} (xs : Vector α 7) (j k : Key) (x : α) (h : j ≠ k) :
    (xs.set k x)[j] = xs[j] := by
  simp [Fin.val_inj, h.symm]

/-- Settles O20: register by register, a sub-field is a run of bits of the byte, or one bit. -/
theorem decodeOfPackedRegisters : Obligations.DecodeOfPackedRegisters := by
  intro m b k
  refine ⟨⟨?_, ?_⟩, ⟨getLsbD_seven b, getLsbD_eq_decide b 6, getLsbD_zero b⟩, ?_,
    ⟨?_, ?_, fun j hj => ⟨getElem_set_other _ j k _ hj, getElem_set_other _ j k _ hj⟩⟩,
    getLsbD_eq_decide b 5, getLsbD_eq_decide b 4, ?_⟩
  · rw [decode_chipId, extract_toNat]
    omega
  · rw [decode_chipId, extract_toNat]
    omega
  · rw [keyTouchAt_decode_keyStatus, getLsbD_eq_decide]
  · rw [decode_aveAks, getElem_set_key, extract_toNat]
    omega
  · rw [decode_aveAks, getElem_set_key, extract_toNat]
    omega
  · rw [decode_foMcGuard, extract_toNat]
    omega

/-- Settles O21: the composite of key k is joined from the byte and its own other half; the other keys keep theirs. -/
theorem decodeOfCompositeHalves : Obligations.DecodeOfCompositeHalves := by
  intro m b k
  refine ⟨?_, ?_, ?_, ?_, fun j hj => ⟨?_, ?_, ?_, ?_⟩⟩
  · rw [decode_keySignalMs, getElem_set_key, half_toNat, half_low_toNat]
  · rw [decode_keySignalLs, getElem_set_key, half_toNat, half_high_toNat]
  · rw [decode_referenceDataMs, getElem_set_key, half_toNat, half_low_toNat]
  · rw [decode_referenceDataLs, getElem_set_key, half_toNat, half_high_toNat]
  all_goals exact getElem_set_other _ j k _ hj

/-- The KeyStatus byte has the seven flags in their places, and bit 7 reserved (R154). -/
theorem getLsbD_encode_keyStatus (m : Mirror) (k : Key) :
    (m.encode .keyStatus).getLsbD k = m.keyTouchAt k ∧ (m.encode .keyStatus).getLsbD 7 = false := by
  rw [encode_keyStatus, BitVec.getLsbD_append, BitVec.getLsbD_append, if_pos k.isLt]
  exact ⟨rfl, rfl⟩

/-- Settles O22: each byte is its fields side by side. -/
theorem encodeOfPackedRegisters : Obligations.EncodeOfPackedRegisters := fun _ k =>
  ⟨nibbles_toNat _ _, status_toNat _ _ _, getLsbD_encode_keyStatus _ k, half_high_toNat _, half_low_toNat _,
    half_high_toNat _, half_low_toNat _, aveAks_toNat _ _, foMcGuard_toNat _ _ _⟩

/-- Settles O23: the equations of `decode` for these seven registers. -/
theorem plainRegistersDecodeToTheirByte : Obligations.PlainRegistersDecodeToTheirByte := fun m b k =>
  ⟨decode_firmwareVersion m b, decode_negativeThreshold m k b, decode_detectionIntegrator m k b,
    decode_lowPowerMode m b, decode_maxOnDuration m b, decode_calibrate m b, decode_reset m b⟩

/-- Settles O24: the equations of `encode` for these seven registers. -/
theorem plainRegistersEncodeTheirByte : Obligations.PlainRegistersEncodeTheirByte := fun m k =>
  ⟨encode_firmwareVersion m, encode_negativeThreshold m k, encode_detectionIntegrator m k, encode_lowPowerMode m,
    encode_maxOnDuration m, encode_calibrate m, encode_reset m⟩

/-! ### DEC, ENC and ADDR (40_codec.md R147, R167, R173) -/

/-- DEC answers the byte under the mask, from the state whose mirror is decoded. -/
theorem exec_dec (r : Reg) (b : Byte) (s : State) :
    exec (.dec r b) s =
      .next (respond (zext16 (b &&& definedBits r)) false (s.setMirror (s.mirror.decode r b))) := by
  rw [← encode_decode_same s.mirror r b]
  rfl

theorem exec_enc (r : Reg) (s : State) :
    exec (.enc r) s = .next (respond (zext16 (s.mirror.encode r)) false s) := rfl

theorem exec_addr (r : Reg) (s : State) : exec (.addr r) s = .next (respond (zext16 (addressOf r)) false s) := rfl

/-- Settles O25: the mirror of `exec_dec` by the round trip and the frame of a decode. -/
theorem decResult : Obligations.DecResult := fun r b s =>
  ⟨_, exec_dec r b s, encode_decode_same s.mirror r b, fun r' hr => encode_decode_of_ne s.mirror r r' b hr,
    noTraffic_respond _ _ (s.setMirror _), rfl, _, rfl⟩

/-- Settles O26: both respond from the state as it stands. -/
theorem encAndAddrResult : Obligations.EncAndAddrResult := fun r s =>
  ⟨⟨_, exec_enc r s, onlyAnswered_respond _ _ s⟩, ⟨_, exec_addr r s, onlyAnswered_respond _ _ s⟩⟩

end Sys2Proof.Machine

/-! The synchronisation commands (41_sync.md): what SYNCA and SYNC1 leave in the mirror and answer, on both replies. -/

namespace Sys2Proof.Machine

open Sys2Proof.Safety

/-! ### How a command ends (30_encoding.md R120; 60_exceptions.md R313) -/

theorem answered_ok_respond (d : Half) (f : Bool) (s : State) : Answered (respond d f s) .ok d f := ⟨rfl, _, rfl⟩

theorem failedWith_raise_transport (e : TErr) (s : State) : FailedWith (raise (.transport e) s) e := ⟨rfl, rfl⟩

/-! ### SYNCA (41_sync.md R190) -/

/-- Every register stands at an address of the buffer, so no byte of the old mirror is left after a whole buffer. -/
theorem decodeAll_forgets (m m' : Mirror) (buf : Vector Byte 58) : m.decodeAll buf = m'.decodeAll buf := by
  apply imageDeterminesTheMirror
  intro r
  rw [← regOf_addressOf r, encode_decodeAll, encode_decodeAll]

/-- A SYNCA whose transaction succeeds has decoded the whole buffer. -/
theorem execSynca_mirror_ok (s t : State) (buf : Vector Byte 58) (h : s.nextReply = .ok buf)
    (ht : execSynca s = .next t) : t.mirror = s.mirror.decodeAll buf := by
  cases (execSynca_ok s buf h).symm.trans ht
  rfl

/-- Settles O27: by the reply. Each address holds its byte by `encode_decodeAll`; a failed read decodes nothing. -/
theorem syncaResult : Obligations.SyncaResult := by
  intro s
  obtain ⟨t, ht⟩ : ∃ t, execSynca s = .next t := ⟨_, rfl⟩
  refine ⟨t, ht, execSynca_transaction s t ht, fun buf hr => ⟨fun a => ?_, ?_⟩, fun e hr => ?_⟩
  · rw [Mirror.image, execSynca_mirror_ok s t buf hr ht]
    exact encode_decodeAll s.mirror buf a
  · cases (execSynca_ok s buf hr).symm.trans ht
    exact answered_ok_respond _ _ _
  · cases (execSynca_err s e hr).symm.trans ht
    exact ⟨rfl, failedWith_raise_transport _ _⟩

/-- Settles O28: both mirrors are the buffer decoded, which forgets what it was decoded into. -/
theorem syncaForgetsTheOldMirror : Obligations.SyncaForgetsTheOldMirror := by
  intro s s' t t' buf hr hr' ht ht'
  rw [execSynca_mirror_ok s t buf hr ht, execSynca_mirror_ok s' t' buf hr' ht']
  exact decodeAll_forgets s.mirror s'.mirror buf

/-! ### SYNC1 (41_sync.md R191, R192) -/

/-- Settles O30: by the reply. A byte read is decoded into its register alone (40_codec.md R174, R175); a failed read
decodes nothing. -/
theorem sync1Result : Obligations.Sync1Result := by
  intro r s
  obtain ⟨t, ht⟩ : ∃ t, execSync1 r s = .next t := ⟨_, rfl⟩
  refine ⟨t, ht, execSync1_transaction r s t ht, fun buf hr => ?_, fun e hr => ?_⟩
  · have hbyte := encode_decode_same s.mirror r buf[0]
    have hok := execSync1_ok r s buf hr
    rw [hbyte] at hok
    cases hok.symm.trans ht
    exact ⟨hbyte, fun r' hne => encode_decode_of_ne s.mirror r r' buf[0] hne, answered_ok_respond _ _ _⟩
  · cases (execSync1_err r s e hr).symm.trans ht
    exact ⟨rfl, failedWith_raise_transport _ _⟩

end Sys2Proof.Machine

/-! The write commands (42_write.md): WR and the typed setters as one write-through, the byte each setter sends, and
what it leaves unchanged. -/

namespace Sys2Proof.Machine

open Sys2Proof.Safety

/-! ### Dropped and written through (R210, R211, R236) -/

theorem dropped_drop (s : State) : Dropped s (drop s) := ⟨rfl, noTraffic_respond 0 true s, answered_ok_respond 0 true s⟩

/-- A write-through stores the update, sends the byte its register then has, and answers by the reply. -/
theorem wroteThrough_writeThrough (r : Reg) (upd : Mirror → Mirror) (s : State) :
    WroteThrough s (writeThrough r upd s) (upd s.mirror) (addressOf r) ((upd s.mirror).encode r) := by
  have htransaction := writeThrough_transaction r upd s
  rw [writeThrough_mirror] at htransaction
  refine ⟨writeThrough_mirror r upd s, htransaction, fun bs h => ?_, fun e h => ?_⟩
  · rw [writeThrough_ok r upd s bs h]
    exact answered_ok_respond _ _ _
  · rw [writeThrough_err r upd s e h]
    exact failedWith_raise_transport _ _

/-- A write-through depends on its update only by the mirror it makes of this one. -/
theorem writeThrough_congr (r : Reg) (upd upd' : Mirror → Mirror) (s : State) (h : upd s.mirror = upd' s.mirror) :
    writeThrough r upd s = writeThrough r upd' s := by
  simp only [writeThrough, h]

/-- A command that is a write-through, with the mirror, the address and the byte as a statement gives them. -/
theorem exists_wroteThrough {i : Instr} {r : Reg} {upd : Mirror → Mirror} {s : State} {m : Mirror} {a b : Byte}
    (hi : exec i s = .next (writeThrough r upd s)) (hm : upd s.mirror = m) (ha : addressOf r = a)
    (hb : (upd s.mirror).encode r = b) : ∃ t, exec i s = .next t ∧ WroteThrough s t m a b := by
  subst hm ha hb
  exact ⟨_, hi, wroteThrough_writeThrough r upd s⟩

/-! ### WR (R211) -/

theorem exec_wr_writable (r : Reg) (b : Byte) (s : State) (h : writable r = true) :
    exec (.wr r b) s = .next (writeThrough r (fun m => m.decode r b) s) :=
  congrArg Host.Outcome.next (gatedWrite_writable r _ s h)

theorem exec_wr_readOnly (r : Reg) (b : Byte) (s : State) (h : writable r = false) :
    exec (.wr r b) s = .next (drop s) :=
  congrArg Host.Outcome.next (gatedWrite_readOnly r _ s h)

/-- Settles O31: by the gate. Past it the byte sent is the decoded register's, so the byte under its mask. -/
theorem wrResult : Obligations.WrResult := by
  intro r b s
  cases h : writable r with
  | false => exact ⟨_, exec_wr_readOnly r b s h, nofun, fun _ => dropped_drop s⟩
  | true =>
    obtain ⟨t, ht, hwrote⟩ :=
      exists_wroteThrough (exec_wr_writable r b s h) rfl rfl (encode_decode_same s.mirror r b)
    exact ⟨t, ht, fun _ => hwrote, nofun⟩

/-! ### The typed setters (R212 to R235) -/

/-- Settles O32: the gate drops each of the ten. -/
theorem readOnlySettersAreDropped : Obligations.ReadOnlySettersAreDropped := fun _ _ s =>
  have hdrop := dropped_drop s
  ⟨⟨_, rfl, hdrop⟩, ⟨_, rfl, hdrop⟩, ⟨_, rfl, hdrop⟩, ⟨_, rfl, hdrop⟩, ⟨_, rfl, hdrop⟩, ⟨_, rfl, hdrop⟩,
    ⟨_, rfl, hdrop⟩, ⟨_, rfl, hdrop⟩, ⟨_, rfl, hdrop⟩, ⟨_, rfl, hdrop⟩⟩

/-- An operand that fits its `n` bits is written through. -/
theorem checkedWrite_bits (n : Nat) (v : Byte) (r : Reg) (upd : Mirror → Mirror) (s : State) (hv : v.toNat < 2 ^ n)
    (hw : writable r = true) : checkedWrite (.bits n) v r upd s = writeThrough r upd s := by
  rw [checkedWrite_fits _ _ _ _ _ ((dataRule_bits_ok n v).mpr hv), gatedWrite_writable _ _ _ hw]

section
variable (k : Key) (v : Byte) (s : State)

theorem exec_setNthr :
    exec (.setNthr k v) s = .next (writeThrough (.negativeThreshold k) (fun m => m.setNthr k v) s) := rfl
theorem exec_setDi :
    exec (.setDi k v) s = .next (writeThrough (.detectionIntegrator k) (fun m => m.setDi k v) s) := rfl
theorem exec_setLp : exec (.setLp v) s = .next (writeThrough .lowPowerMode (fun m => m.setLp v) s) := rfl
theorem exec_setMaxon : exec (.setMaxon v) s = .next (writeThrough .maxOnDuration (fun m => m.setMaxon v) s) := rfl
theorem exec_setCal : exec .setCal s = .next (writeThrough .calibrate (fun m => m.setCal) s) := rfl
theorem exec_setRst : exec .setRst s = .next (writeThrough .reset (fun m => m.setRst) s) := rfl
theorem exec_setAve (h : v.toNat < 64) :
    exec (.setAve k v) s = .next (writeThrough (.aveAks k) (fun m => m.setAve k v) s) :=
  congrArg Host.Outcome.next (checkedWrite_bits 6 v _ _ s h rfl)
theorem exec_setAks (h : v.toNat < 4) :
    exec (.setAks k v) s = .next (writeThrough (.aveAks k) (fun m => m.setAks k v) s) :=
  congrArg Host.Outcome.next (checkedWrite_bits 2 v _ _ s h rfl)
theorem exec_setFmg (h : v.toNat < 64) :
    exec (.setFmg v) s = .next (writeThrough .foMcGuard (fun m => m.setFmg v) s) :=
  congrArg Host.Outcome.next (checkedWrite_bits 6 v _ _ s h rfl)
theorem exec_setFo (h : v.toNat < 2) : exec (.setFo v) s = .next (writeThrough .foMcGuard (fun m => m.setFo v) s) :=
  congrArg Host.Outcome.next (checkedWrite_bits 1 v _ _ s h rfl)
theorem exec_setMc (h : v.toNat < 2) : exec (.setMc v) s = .next (writeThrough .foMcGuard (fun m => m.setMc v) s) :=
  congrArg Host.Outcome.next (checkedWrite_bits 1 v _ _ s h rfl)
theorem exec_setGuard (h : v.toNat < 16) :
    exec (.setGuard v) s = .next (writeThrough .foMcGuard (fun m => m.setGuard v) s) :=
  congrArg Host.Outcome.next (checkedWrite_bits 4 v _ _ s h rfl)

end

/-! ### The byte each setter sends (R212): the new sub-field beside the mirror's others -/

section
variable (m : Mirror) (k : Key) (v : Byte)

theorem encode_setNthr : (m.setNthr k v).encode (.negativeThreshold k) = v :=
  getElem_set_key m.negativeThreshold k v

theorem encode_setDi : (m.setDi k v).encode (.detectionIntegrator k) = v :=
  getElem_set_key m.detectionIntegrator k v

theorem encode_setAve_toNat :
    ((m.setAve k v).encode (.aveAks k)).toNat = 4 * (v.extractLsb' 0 6).toNat + m.aks[k].toNat := by
  rw [encode_aveAks, aveAks_toNat, Mirror.setAve, getElem_set_key]

theorem encode_setAks_toNat :
    ((m.setAks k v).encode (.aveAks k)).toNat = 4 * m.ave[k].toNat + (v.extractLsb' 0 2).toNat := by
  rw [encode_aveAks, aveAks_toNat, Mirror.setAks, getElem_set_key]

theorem encode_setFo_toNat :
    ((m.setFo v).encode .foMcGuard).toNat =
      32 * (v.getLsbD 0).toNat + 16 * m.maxCal.toNat + m.guardChannel.toNat := foMcGuard_toNat _ _ _

theorem encode_setMc_toNat :
    ((m.setMc v).encode .foMcGuard).toNat =
      32 * m.fastOut.toNat + 16 * (v.getLsbD 0).toNat + m.guardChannel.toNat := foMcGuard_toNat _ _ _

theorem encode_setGuard_toNat :
    ((m.setGuard v).encode .foMcGuard).toNat =
      32 * m.fastOut.toNat + 16 * m.maxCal.toNat + (v.extractLsb' 0 4).toNat := foMcGuard_toNat _ _ _

theorem encode_setAve (h : v.toNat < 64) :
    (m.setAve k v).encode (.aveAks k) = BitVec.ofNat 8 (4 * v.toNat + m.aks[k].toNat) :=
  byte_eq_of_toNat _ _ (by rw [encode_setAve_toNat, fits_six v h])

theorem encode_setAks (h : v.toNat < 4) :
    (m.setAks k v).encode (.aveAks k) = BitVec.ofNat 8 (4 * m.ave[k].toNat + v.toNat) :=
  byte_eq_of_toNat _ _ (by rw [encode_setAks_toNat, fits_two v h])

/-- SET.FMG sends its operand: it names every defined bit of the byte. -/
theorem encode_setFmg (h : v.toNat < 64) : (m.setFmg v).encode .foMcGuard = v := by
  have hmask : v &&& 0x3F#8 = v := by
    apply BitVec.eq_of_toNat_eq
    rw [BitVec.toNat_and]
    exact (Nat.and_two_pow_sub_one_eq_mod v.toNat 6).trans (Nat.mod_eq_of_lt h)
  exact (foMcGuard_join v).trans hmask

theorem encode_setFo (h : v.toNat < 2) :
    (m.setFo v).encode .foMcGuard =
      BitVec.ofNat 8 (32 * v.toNat + 16 * m.maxCal.toNat + m.guardChannel.toNat) :=
  byte_eq_of_toNat _ _ (by rw [encode_setFo_toNat, (fits_one v h).2])

theorem encode_setMc (h : v.toNat < 2) :
    (m.setMc v).encode .foMcGuard =
      BitVec.ofNat 8 (32 * m.fastOut.toNat + 16 * v.toNat + m.guardChannel.toNat) :=
  byte_eq_of_toNat _ _ (by rw [encode_setMc_toNat, (fits_one v h).2])

theorem encode_setGuard (h : v.toNat < 16) :
    (m.setGuard v).encode .foMcGuard =
      BitVec.ofNat 8 (32 * m.fastOut.toNat + 16 * m.maxCal.toNat + v.toNat) :=
  byte_eq_of_toNat _ _ (by rw [encode_setGuard_toNat, fits_four v h])

end

/-! ### What each setter does (R224 to R236) -/

/-- Settles O33: each of the four sends its operand; the key's address is the base plus the key. -/
theorem byteSetterResults : Obligations.ByteSetterResults := fun k v s =>
  ⟨exists_wroteThrough (exec_setNthr k v s) rfl (BitVec.ofNat_add 0x20 k.val).symm (encode_setNthr s.mirror k v),
    exists_wroteThrough (exec_setDi k v s) rfl (BitVec.ofNat_add 0x2E k.val).symm (encode_setDi s.mirror k v),
    exists_wroteThrough (exec_setLp v s) rfl rfl rfl,
    exists_wroteThrough (exec_setMaxon v s) rfl rfl rfl⟩

/-- Settles O34: the operand fits, so its low bits are the operand. -/
theorem aveAndAksSetterResults : Obligations.AveAndAksSetterResults := fun k v s =>
  have haddress : addressOf (.aveAks k) = BitVec.ofNat 8 (0x27 + k.val) := (BitVec.ofNat_add 0x27 k.val).symm
  ⟨fun h => exists_wroteThrough (exec_setAve k v s h) rfl haddress (encode_setAve s.mirror k v h),
    fun h => exists_wroteThrough (exec_setAks k v s h) rfl haddress (encode_setAks s.mirror k v h)⟩

/-- Settles O35: the one-bit operands by `fits_one`, the bits of SET.FMG's by quotient and remainder. -/
theorem foMcGuardSetterResults : Obligations.FoMcGuardSetterResults := by
  intro v s
  refine ⟨fun h => exists_wroteThrough (exec_setFmg v s h) ?_ rfl (encode_setFmg s.mirror v h),
    fun h => exists_wroteThrough (exec_setFo v s h) ?_ rfl (encode_setFo s.mirror v h),
    fun h => exists_wroteThrough (exec_setMc v s h) ?_ rfl (encode_setMc s.mirror v h),
    fun h => exists_wroteThrough (exec_setGuard v s h) rfl rfl (encode_setGuard s.mirror v h)⟩
  · rw [Mirror.setFmg, getLsbD_eq_decide v 5, getLsbD_eq_decide v 4]
    rfl
  · rw [Mirror.setFo, (fits_one v h).1]
  · rw [Mirror.setMc, (fits_one v h).1]

/-- Settles O36: RCD supplies the byte 0x01 to both. -/
theorem startCalibrationAndResetResults : Obligations.StartCalibrationAndResetResults := fun s =>
  ⟨exists_wroteThrough (exec_setCal s) rfl rfl rfl, exists_wroteThrough (exec_setRst s) rfl rfl rfl⟩

/-! ### A setter and the raw write of its byte (R238) -/

/-- An update that a decode of `r` overwrites stays inside `r`, so decoding the byte it leaves there is the update. -/
theorem decode_encode_of_overwritten (m m' : Mirror) (r : Reg) (b : Byte) (hover : m'.decode r b = m.decode r b)
    (hb : m'.encode r = b) : m.decode r b = m' := by
  rw [← hover, ← hb, decode_encode_self]

/-- A write-through of an update inside `r` is WR of the byte it sends. -/
theorem eq_rawWrite {i : Instr} {r : Reg} {upd : Mirror → Mirror} {s : State} {b : Byte}
    (hi : exec i s = .next (writeThrough r upd s)) (hw : writable r = true)
    (hover : (upd s.mirror).decode r b = s.mirror.decode r b) (hb : (upd s.mirror).encode r = b) :
    exec i s = exec (.wr r b) s := by
  have hdecode := decode_encode_of_overwritten s.mirror (upd s.mirror) r b hover hb
  rw [hi, exec_wr_writable r b s hw, writeThrough_congr r upd (fun m => m.decode r b) s hdecode.symm]

theorem decode_setNthr (m : Mirror) (k : Key) (v b : Byte) :
    (m.setNthr k v).decode (.negativeThreshold k) b = m.decode (.negativeThreshold k) b := by
  simp [decode_negativeThreshold, Mirror.setNthr]

theorem decode_setDi (m : Mirror) (k : Key) (v b : Byte) :
    (m.setDi k v).decode (.detectionIntegrator k) b = m.decode (.detectionIntegrator k) b := by
  simp [decode_detectionIntegrator, Mirror.setDi]

theorem decode_setAve (m : Mirror) (k : Key) (v b : Byte) :
    (m.setAve k v).decode (.aveAks k) b = m.decode (.aveAks k) b := by
  simp [decode_aveAks, Mirror.setAve]

theorem decode_setAks (m : Mirror) (k : Key) (v b : Byte) :
    (m.setAks k v).decode (.aveAks k) b = m.decode (.aveAks k) b := by
  simp [decode_aveAks, Mirror.setAks]

/-- Settles O38: each setter's update stays inside the register whose byte it sends. -/
theorem setterEqualsRawWrite : Obligations.SetterEqualsRawWrite := fun k v s =>
  ⟨eq_rawWrite (exec_setNthr k v s) rfl (decode_setNthr _ k v v) (encode_setNthr _ k v),
    eq_rawWrite (exec_setDi k v s) rfl (decode_setDi _ k v v) (encode_setDi _ k v),
    eq_rawWrite (exec_setLp v s) rfl rfl rfl,
    eq_rawWrite (exec_setMaxon v s) rfl rfl rfl,
    eq_rawWrite (exec_setCal s) rfl rfl rfl,
    eq_rawWrite (exec_setRst s) rfl rfl rfl,
    fun h => eq_rawWrite (exec_setAve k v s h) rfl (decode_setAve _ k v _) (encode_setAve _ k v h),
    fun h => eq_rawWrite (exec_setAks k v s h) rfl (decode_setAks _ k v _) (encode_setAks _ k v h),
    fun h => eq_rawWrite (exec_setFmg v s h) rfl rfl (encode_setFmg _ v h),
    fun h => eq_rawWrite (exec_setFo v s h) rfl rfl (encode_setFo _ v h),
    fun h => eq_rawWrite (exec_setMc v s h) rfl rfl (encode_setMc _ v h),
    fun h => eq_rawWrite (exec_setGuard v s h) rfl rfl (encode_setGuard _ v h)⟩

/-! ### The other sub-fields of a packed byte (R237) -/

/-- What a typed setter leaves: the mirror as it was, with nothing sent, or the update, with the update's byte sent. So
what holds of both mirrors holds after it, and what holds of that byte holds of any byte sent. -/
theorem exec_checkedWrite_keeps {i : Instr} {rule : DataRule} {v : Byte} {r : Reg} {upd : Mirror → Mirror}
    {s t : State} (hi : exec i s = .next (checkedWrite rule v r upd s)) (hw : writable r = true)
    (P : Mirror → Prop) (Q : Byte → Prop) (hbefore : P s.mirror) (hafter : P (upd s.mirror))
    (hbyte : Q ((upd s.mirror).encode r)) (h : exec i s = .next t) :
    P t.mirror ∧
      ∀ ev x, t.history = s.history ++ [ev] → ev.wbytes.getLast? = some x → Q x := by
  cases hi.symm.trans h
  rcases checkedWrite_cases rule v r upd s hw with ⟨-, ht⟩ | ⟨-, ht⟩ <;> rw [ht]
  · exact ⟨hbefore, fun ev x hh => by simp at hh⟩
  · obtain ⟨hm, ⟨hhistory, -⟩, -⟩ := wroteThrough_writeThrough r upd s
    refine ⟨hm ▸ hafter, fun ev x hh hx => ?_⟩
    obtain rfl : writeEvent _ _ _ = ev := by simpa [hhistory] using hh
    obtain rfl : (upd s.mirror).encode r = x := by simpa [writeEvent] using hx
    exact hbyte

/-- Settles O37: no setter's update touches the sub-fields it does not name, and the byte sent has them in their
places. -/
theorem subFieldIndependence : Obligations.SubFieldIndependence := by
  intro k v s t
  have haks := s.mirror.aks[k].isLt
  have hguard := s.mirror.guardChannel.isLt
  have hmaxCal := Bool.toNat_le s.mirror.maxCal
  refine ⟨exec_checkedWrite_keeps (i := .setAve k v) rfl rfl (fun m => m.aks = s.mirror.aks) _ rfl rfl ?_,
    exec_checkedWrite_keeps (i := .setAks k v) rfl rfl (fun m => m.ave = s.mirror.ave) _ rfl rfl ?_,
    exec_checkedWrite_keeps (i := .setFo v) rfl rfl
      (fun m => m.maxCal = s.mirror.maxCal ∧ m.guardChannel = s.mirror.guardChannel) _ ⟨rfl, rfl⟩ ⟨rfl, rfl⟩ ?_,
    exec_checkedWrite_keeps (i := .setMc v) rfl rfl
      (fun m => m.fastOut = s.mirror.fastOut ∧ m.guardChannel = s.mirror.guardChannel) _ ⟨rfl, rfl⟩ ⟨rfl, rfl⟩ ?_,
    exec_checkedWrite_keeps (i := .setGuard v) rfl rfl
      (fun m => m.fastOut = s.mirror.fastOut ∧ m.maxCal = s.mirror.maxCal) _ ⟨rfl, rfl⟩ ⟨rfl, rfl⟩ ?_⟩
  · rw [encode_setAve_toNat]
    omega
  · have hlow := (v.extractLsb' 0 2).isLt
    rw [encode_setAks_toNat]
    omega
  · rw [encode_setFo_toNat]
    omega
  · have hbit := Bool.toNat_le (v.getLsbD 0)
    rw [encode_setMc_toNat]
    omega
  · have hlow := (v.extractLsb' 0 4).isLt
    rw [encode_setGuard_toNat]
    omega

/-! ### A failed write (R236) -/

/-- What WR or a SET does, said for every state at once: it is dropped, refused, or writes its register through. -/
theorem exec_write_cases (i : Instr) (hop : opField (encode i) = 0x20 ∨ opField (encode i) = 0x21) :
    (∀ s, exec i s = .next (drop s)) ∨ (∀ s, exec i s = .next (raise .illegal s)) ∨
    ∃ r upd, writtenReg i = some r ∧ writable r = true ∧ ∀ s, exec i s = .next (writeThrough r upd s) := by
  have set : ∀ (rule : DataRule) (v : Byte) (r : Reg) (upd : Mirror → Mirror), writtenReg i = some r →
      writable r = true → (∀ s, exec i s = .next (checkedWrite rule v r upd s)) →
      (∀ s, exec i s = .next (raise .illegal s)) ∨
      ∃ r upd, writtenReg i = some r ∧ writable r = true ∧ ∀ s, exec i s = .next (writeThrough r upd s) := by
    intro rule v r upd hr hw he
    cases hok : rule.ok v with
    | false => exact .inl fun s => by rw [he, checkedWrite_illegal _ _ _ _ _ hok]
    | true => exact .inr ⟨r, upd, hr, hw, fun s => by
        rw [he, checkedWrite_fits _ _ _ _ _ hok, gatedWrite_writable _ _ _ hw]⟩
  cases i
  case wr r b =>
    cases hw : writable r with
    | false => exact .inl fun s => exec_wr_readOnly r b s hw
    | true => exact .inr (.inr ⟨r, _, if_pos hw, hw, fun s => exec_wr_writable r b s hw⟩)
  case setMajor | setMinor | setFw | setCalibrating | setOverflow | setTouch | setKeys | setKeytouch | setSignal |
      setRef =>
    exact .inl fun s => rfl
  case setNthr | setAve | setAks | setDi | setFmg | setFo | setMc | setGuard | setLp | setMaxon =>
    exact .inr (set _ _ _ _ rfl rfl fun s => rfl)
  case setCal => exact .inr (.inr ⟨_, _, rfl, rfl, exec_setCal⟩)
  case setRst => exact .inr (.inr ⟨_, _, rfl, rfl, exec_setRst⟩)
  all_goals simp [encode] at hop

/-- Settles O40: a command that is dropped or refused sends nothing; a write-through stores its update whatever the
reply, and ends with the error of a failed write. -/
theorem failedWriteIsNotRolledBack : Obligations.FailedWriteIsNotRolledBack := by
  intro i s s' t t' hop hmirror h h'
  rcases exec_write_cases i hop with he | he | ⟨r, upd, hr, hw, he⟩
  all_goals
    cases (he s).symm.trans h
    cases (he s').symm.trans h'
  · exact ⟨hmirror.symm, fun e _ hsent => absurd rfl hsent⟩
  · exact ⟨hmirror.symm, fun e _ hsent => absurd rfl hsent⟩
  · obtain ⟨-, -, -, hfails⟩ := wroteThrough_writeThrough r upd s
    obtain ⟨hhistory, -⟩ := writeThrough_transaction r upd s
    refine ⟨by rw [writeThrough_mirror, writeThrough_mirror, hmirror], fun e hreply _ => ?_⟩
    rw [hreply] at hhistory
    exact ⟨hfails e hreply, r, hr, hw, hhistory⟩

/-! ### Reading a field back (43_get.md R260) -/

/-- A write-through leaves its update in the mirror. -/
theorem mirror_of_writeThrough {i : Instr} {r : Reg} {upd : Mirror → Mirror} {s t : State}
    (hi : exec i s = .next (writeThrough r upd s)) (h : exec i s = .next t) : t.mirror = upd s.mirror := by
  cases hi.symm.trans h
  exact writeThrough_mirror r upd s

/-- A command that responds, with the data and the flag as a statement gives them. -/
theorem exists_answered {i : Instr} {t : State} {d d' : Half} {f f' : Bool}
    (hi : exec i t = .next (respond d f t)) (hd : d = d') (hf : f = f') :
    ∃ u, exec i t = .next u ∧ Answered u .ok d' f' := by
  subst hd hf
  exact ⟨_, hi, answered_ok_respond d f t⟩

/-- A sub-field that has the number of a byte answers the byte. -/
theorem zext16_eq_setWidth {n : Nat} (x : BitVec n) (v : Byte) (h : x.toNat = v.toNat) :
    zext16 x = v.setWidth 16 := by
  apply BitVec.eq_of_toNat_eq
  rw [zext16, BitVec.toNat_setWidth, BitVec.toNat_setWidth, h]

theorem zextBit_getLsbD_zero (v : Byte) (h : v.toNat < 2) : zextBit (v.getLsbD 0) = v.setWidth 16 :=
  zext16_eq_setWidth _ v (by rw [BitVec.toNat_ofBool, (fits_one v h).2])

/-- Settles O41: the getter reads the field the setter left in the mirror, whatever the reply was. -/
theorem setThenGetReadsBack : Obligations.SetThenGetReadsBack := by
  intro k v s t
  refine ⟨fun ht => exists_answered rfl ?_ rfl, fun ht => exists_answered rfl ?_ rfl,
    fun ht => exists_answered rfl ?_ rfl, fun ht => exists_answered rfl ?_ rfl,
    fun h ht => exists_answered rfl ?_ rfl, fun h ht => exists_answered rfl ?_ rfl,
    fun h ht => exists_answered rfl ?_ rfl, fun h ht => exists_answered rfl ?_ rfl,
    fun h ht => exists_answered rfl ?_ rfl, fun h ht => exists_answered rfl ?_ ?_⟩
  · rw [mirror_of_writeThrough (exec_setNthr k v s) ht]
    exact congrArg zext16 (encode_setNthr s.mirror k v)
  · rw [mirror_of_writeThrough (exec_setDi k v s) ht]
    exact congrArg zext16 (encode_setDi s.mirror k v)
  · rw [mirror_of_writeThrough (exec_setLp v s) ht]
    rfl
  · rw [mirror_of_writeThrough (exec_setMaxon v s) ht]
    rfl
  · rw [mirror_of_writeThrough (exec_setAve k v s h) ht, Mirror.setAve, getElem_set_key]
    exact zext16_eq_setWidth _ v (fits_six v h)
  · rw [mirror_of_writeThrough (exec_setAks k v s h) ht, Mirror.setAks, getElem_set_key]
    exact zext16_eq_setWidth _ v (fits_two v h)
  · rw [mirror_of_writeThrough (exec_setFmg v s h) ht]
    exact congrArg zext16 (encode_setFmg s.mirror v h)
  · rw [mirror_of_writeThrough (exec_setFo v s h) ht]
    exact zextBit_getLsbD_zero v h
  · rw [mirror_of_writeThrough (exec_setMc v s h) ht]
    exact zextBit_getLsbD_zero v h
  · rw [mirror_of_writeThrough (exec_setGuard v s h) ht]
    exact zext16_eq_setWidth _ v (fits_four v h)
  · rw [mirror_of_writeThrough (exec_setGuard v s h) ht, guardNone, Mirror.setGuard_guardChannel, fits_four v h]

end Sys2Proof.Machine

/-! The getter commands (43_get.md): the data each of GET, LPI and MOD answers, in numbers. -/

namespace Sys2Proof.Machine

open Sys2Proof.Safety

/-! ### LPI and MOD (R284, R285, R286) -/

theorem zext16_toNat (n : Byte) : (zext16 n).toNat = n.toNat := BitVec.toNat_setWidth_of_le (by decide)

/-- A byte times a factor up to 257 fits 16 bits. -/
theorem zext16_mul_toNat (n : Byte) (c : Nat) (hc : c ≤ 257) : (zext16 n * BitVec.ofNat 16 c).toNat = c * n.toNat := by
  have hle : n.toNat * c ≤ 255 * 257 := Nat.mul_le_mul (Nat.le_of_lt_succ n.isLt) hc
  rw [BitVec.toNat_mul, zext16_toNat, BitVec.toNat_ofNat, Nat.mod_eq_of_lt (by omega : c < 2 ^ 16),
    Nat.mod_eq_of_lt (by omega), Nat.mul_comm]

theorem lowPowerInterval_toNat (n : Byte) : (lowPowerInterval n).toNat = 8 * max 1 n.toNat := by
  by_cases hn : n = 0
  · subst hn
    rfl
  · have hpos : 1 ≤ n.toNat := Nat.one_le_iff_ne_zero.mpr fun h => hn (BitVec.eq_of_toNat_eq h)
    rw [lowPowerInterval, if_neg hn, Nat.max_eq_right hpos]
    exact zext16_mul_toNat n 8 (by decide)

theorem maxOnMillis_toNat (n : Byte) : (maxOnMillis n).toNat = 160 * n.toNat := zext16_mul_toNat n 160 (by decide)

theorem maxOnDisabled_eq_decide (n : Byte) : maxOnDisabled n = decide (n.toNat = 0) := by
  rw [maxOnDisabled, Bool.beq_eq_decide_eq]
  exact decide_eq_decide.mpr BitVec.toNat_inj.symm

theorem exec_lpi (s : State) :
    exec .lpi s = .next (respond (lowPowerInterval s.mirror.lowPowerMode) false s) := rfl

theorem exec_mod (s : State) :
    exec .mod s = .next (respond (maxOnMillis s.mirror.maxOnDuration) (maxOnDisabled s.mirror.maxOnDuration) s) := rfl

/-- Settles O45: both answer a product that does not wrap, and a count is at most 255. -/
theorem durationsInMilliseconds : Obligations.DurationsInMilliseconds := by
  intro s
  have hlpi := lowPowerInterval_toNat s.mirror.lowPowerMode
  have hmod := maxOnMillis_toNat s.mirror.maxOnDuration
  refine ⟨⟨_, _, exec_lpi s, onlyAnswered_respond _ _ s, hlpi, by omega, by omega⟩,
    ⟨_, _, exec_mod s, ?_, hmod, by omega⟩⟩
  rw [← maxOnDisabled_eq_decide]
  exact onlyAnswered_respond _ _ s

/-! ### GET (R260 to R283) -/

theorem zext16_eq_ofNat {n : Nat} (x : BitVec n) : zext16 x = BitVec.ofNat 16 x.toNat := (BitVec.ofNat_toNat 16 x).symm

theorem zextBit_eq_ofNat (b : Bool) : zextBit b = BitVec.ofNat 16 b.toNat := by
  rw [zextBit, zext16_eq_ofNat, BitVec.toNat_ofBool]

/-- GET.FMG answers the byte of register FoMcGuard, its three fields side by side (R275). -/
theorem zext16_encode_foMcGuard (m : Mirror) :
    zext16 (m.encode .foMcGuard) =
      BitVec.ofNat 16 (32 * m.fastOut.toNat + 16 * m.maxCal.toNat + m.guardChannel.toNat) := by
  rw [zext16_eq_ofNat, encode_foMcGuard, foMcGuard_toNat]

section
variable {i : Instr} {s : State}

/-- A command that responds from the state as it stands only answers. -/
theorem exists_onlyAnswered {d : Half} {f : Bool} (h : exec i s = .next (respond d f s)) :
    ∃ t, exec i s = .next t ∧ OnlyAnswered s t d f := ⟨_, h, onlyAnswered_respond d f s⟩

/-- The same for a one-bit field, its bit as a number. -/
theorem exists_onlyAnswered_bit {b : Bool} (h : exec i s = .next (respond (zextBit b) false s)) :
    ∃ t, exec i s = .next t ∧ OnlyAnswered s t (BitVec.ofNat 16 b.toNat) false :=
  exists_onlyAnswered (zextBit_eq_ofNat b ▸ h)

end

/-- Settles O42: every getter responds with its field from the state as it stands. -/
theorem statusGetterResults : Obligations.StatusGetterResults := fun _ _ =>
  ⟨exists_onlyAnswered rfl, exists_onlyAnswered rfl, exists_onlyAnswered rfl, exists_onlyAnswered_bit rfl,
    exists_onlyAnswered_bit rfl, exists_onlyAnswered_bit rfl, exists_onlyAnswered rfl, exists_onlyAnswered_bit rfl,
    exists_onlyAnswered rfl, exists_onlyAnswered rfl, exists_onlyAnswered rfl⟩

/-- Settles O43: as O42, with the packed byte of GET.FMG in numbers; `guardNone` is the flag of GET.GUARD. -/
theorem configurationGetterResults : Obligations.ConfigurationGetterResults := by
  intro k s
  refine ⟨exists_onlyAnswered rfl, exists_onlyAnswered rfl, exists_onlyAnswered rfl, ?fmg,
    exists_onlyAnswered_bit rfl, exists_onlyAnswered_bit rfl, exists_onlyAnswered rfl, exists_onlyAnswered rfl,
    exists_onlyAnswered rfl, exists_onlyAnswered rfl, exists_onlyAnswered rfl⟩
  case fmg =>
    rw [← zext16_encode_foMcGuard]
    exact exists_onlyAnswered rfl

end Sys2Proof.Machine

/-! The system command WCAL (44_system.md): one poll by its reply, the polling phase as an invariant, and runs of
polls. -/

namespace Sys2Proof.Machine

open Sys2Proof.Safety

/-! ### One poll (R300, R301, R303) -/

/-- Settles O48: by the reply, and by bit 7 of the byte read. -/
theorem wcalPollResult : Obligations.WcalPollResult := by
  intro s
  obtain ⟨t, ht⟩ : ∃ t, execWcal s = .next t := ⟨_, rfl⟩
  refine ⟨t, ht, execWcal_transaction s t ht, fun buf hr => ?_, fun e hr => ?_⟩
  · cases hb : buf[0].getLsbD 7
    · have hclear := execWcal_clear s buf hr hb
      rw [encode_decode_same] at hclear
      cases hclear.symm.trans ht
      exact ⟨by rw [← hb]; rfl, fun _ => answered_ok_respond _ _ _, nofun⟩
    · cases (execWcal_busy s buf hr hb).symm.trans ht
      exact ⟨by rw [← hb]; rfl, nofun, fun _ => ⟨rfl, rfl⟩⟩
  · cases (execWcal_err s e hr).symm.trans ht
    exact ⟨rfl, failedWith_raise_transport e _⟩

/-! ### The polling phase (R300, R303; 30_encoding.md R120) -/

theorem pollingOk_of_idle (t : State) (h : t.polling = false) : PollingOk t := fun hp => by simp [h] at hp

/-- A poll of WCAL goes on only after a read that left the flag set. -/
theorem execWcal_pollingOk (s t : State) (h : execWcal s = .next t) : PollingOk t := by
  cases hr : s.nextReply with
  | err e => cases (execWcal_err s e hr).symm.trans h; exact pollingOk_of_idle _ rfl
  | ok buf =>
    cases hb : buf[0].getLsbD 7
    · cases (execWcal_clear s buf hr hb).symm.trans h; exact pollingOk_of_idle _ rfl
    · cases (execWcal_busy s buf hr hb).symm.trans h
      exact fun _ => ⟨rfl, hb, _, List.getLast?_concat⟩

/-- A command leaves the phase consistent: every one ends but WCAL. -/
theorem exec_pollingOk (i : Instr) (s t : State) (h : exec i s = .next t) : PollingOk t := by
  obtain ⟨hidle, -⟩ | ⟨rfl, -⟩ := oneResponsePerCommand i s t h
  · exact pollingOk_of_idle t hidle
  · exact execWcal_pollingOk s t h

theorem pollingOk_of_ends (s s1 t : State) (hf : fetch s = .ends s1) (h : step s = .next t)
    (hidle : s1.polling = false) : PollingOk t := by
  cases (step_of_ends s s1 hf).symm.trans h
  exact pollingOk_of_idle s1 hidle

/-- A step leaves the phase consistent, whatever it was before: it ends idle, or it was a poll of WCAL. -/
theorem step_pollingOk (s t : State) (h : step s = .next t) : PollingOk t := by
  rcases fetch_cases s with ⟨-, -, hf⟩ | ⟨w, rest, i, -, -, -, -, hf⟩ | ⟨w, rest, e, -, -, -, -, hf⟩ |
    ⟨-, hp, -, hf⟩ | ⟨-, hf⟩ | ⟨-, -, hf⟩ | ⟨w, rest, -, -, -, -, hf⟩ | ⟨w, rest, -, -, -, -, hf⟩
  · exact exec_pollingOk _ _ t ((step_of_runs _ _ _ hf).symm.trans h)
  · exact exec_pollingOk _ _ t ((step_of_runs _ _ _ hf).symm.trans h)
  -- a word rejected, nothing presented, or reset alone
  · exact pollingOk_of_ends _ _ t hf h rfl
  · exact pollingOk_of_ends _ _ t hf h hp
  · exact pollingOk_of_ends _ _ t hf h rfl
  -- a reset inside a later poll, or inside the first
  · exact pollingOk_of_ends _ _ t hf h rfl
  · exact pollingOk_of_ends _ _ t hf h rfl
  · cases (step_of_noStep _ hf).symm.trans h

/-- Settles O52: `step_pollingOk`, which needs nothing of the phase before the step. -/
theorem pollingPhaseStaysConsistent : Obligations.PollingPhaseStaysConsistent := fun s t _ => step_pollingOk s t

/-! ### Runs -/

section
variable (M : Host.Core)

/-- One step more of a run, at its end. -/
theorem run_succ_of_run (n : Nat) (s u : M.State) (h : M.run n s = .next u) : M.run (n + 1) s = M.step u := by
  induction n generalizing s with
  | zero =>
    cases h
    cases hu : M.step u <;> simp [Host.Core.run, hu]
  | succ n ih =>
    rw [Host.Core.run] at h ⊢
    cases hs : M.step s with
    | next t => rw [hs] at h; exact ih t h
    | fault r => rw [hs] at h; cases h
    | refused r => rw [hs] at h; cases h

/-- A run depends on the first state through its step only. -/
theorem run_succ_congr (n : Nat) (s s' : M.State) (h : M.step s = M.step s') : M.run (n + 1) s = M.run (n + 1) s' := by
  rw [Host.Core.run, Host.Core.run, h]

end

/-! ### WCAL presented is WCAL polling -/

/-- A poll ends by setting the phase and the response port, so it does not depend on what they were. -/
theorem execWcal_keepPolling (s : State) : execWcal (keepPolling s) = execWcal s := by
  cases hr : s.nextReply with
  | err e => rw [execWcal_err s e hr, execWcal_err (keepPolling s) e hr]; rfl
  | ok buf =>
    cases hb : buf[0].getLsbD 7
    · rw [execWcal_clear s buf hr hb, execWcal_clear (keepPolling s) buf hr hb]; rfl
    · rw [execWcal_busy s buf hr hb, execWcal_busy (keepPolling s) buf hr hb]; rfl

/-- An RCD to which WCAL is presented steps like one that polls already, the word taken: the first poll comes before
any test (R301). -/
theorem step_of_presents_wcal (s : State) (rest : List Word) (h : Presents s 0x40000000 rest) :
    step s = step (keepPolling (s.take rest)) := by
  have hoff : (keepPolling (s.take rest)).resetNow = .off := h.2.2
  calc step s = execWcal (s.listen.take rest) := step_of_presents_ok s _ rest .wcal h rfl
    _ = execWcal (keepPolling (s.listen.take rest)) := (execWcal_keepPolling _).symm
    _ = step (keepPolling (s.take rest)) := (stepWhilePollingPollsAgain _ rfl hoff).symm

/-! ### A run of polls (R302) -/

theorem resetNow_of_noReset (s : State) (h : NoReset s.resets) : s.resetNow = .off := by
  cases hc : s.resets with
  | nil => exact resetNow_nil s hc
  | cons x xs => rw [resetNow_cons s x xs hc]; exact h x (by simp [hc])

/-- The device's reply to the transaction that comes after `n` others (20_memory.md R78). -/
def State.replyAt (s : State) (n : Nat) : DeviceReply :=
  s.replies[n]?.getD (s.repliesAfter.getD (Config.oracle (s.history.length + n)))

/-- From `s` to `u` WCAL has made `n` polls: `n` reads, replies and reset inputs used up, and the mirror changed in
DetectionStatus alone. -/
structure PollsMade (s : State) (n : Nat) (u : State) : Prop where
  history : u.history = s.history ++ ((List.range n).map s.replyAt).map (readEvent 0x02 1)
  replies : u.replies = s.replies.drop n
  repliesAfter : u.repliesAfter = s.repliesAfter
  commands : u.commands = s.commands
  resets : u.resets = s.resets.drop n
  mirror : ∀ b, u.mirror.decode .detectionStatus b = s.mirror.decode .detectionStatus b

/-- WCAL is polling and has not answered. -/
def Unanswered (u : State) : Prop := u.polling = true ∧ u.response = none

theorem pollsMade_zero (s : State) : PollsMade s 0 s := ⟨by simp, rfl, rfl, rfl, rfl, fun _ => rfl⟩

theorem PollsMade.nextReply_eq {s u : State} {n : Nat} (h : PollsMade s n u) : u.nextReply = s.replyAt n := by
  have hhead : s.replies[n]? = u.replies.head? := by rw [h.replies, List.head?_drop]
  have hlen : u.history.length = s.history.length + n := by simp [h.history]
  rw [State.replyAt, hhead, ← h.repliesAfter, ← hlen]
  cases hu : u.replies <;> simp [State.nextReply, hu]

theorem PollsMade.resetNow_eq {s u : State} {n : Nat} (h : PollsMade s n u) (hno : NoReset s.resets) :
    u.resetNow = .off :=
  resetNow_of_noReset u fun x hx => hno x (List.mem_of_mem_drop (h.resets ▸ hx))

/-- Poll `n + 1`, when the device answers it: WCAL goes on or responds by bit 7 of the byte read. -/
theorem PollsMade.poll {s u : State} {n : Nat} (h : PollsMade s n u) (hp : u.polling = true)
    (hno : NoReset s.resets) (buf : Vector Byte 58) (hbuf : s.replyAt n = .ok buf) :
    ∃ v, step u = .next v ∧ PollsMade s (n + 1) v ∧ v.mirror = s.mirror.decode .detectionStatus buf[0] ∧
      (buf[0].getLsbD 7 = false → Answered v .ok ((buf[0] &&& 0xC1).setWidth 16) false) ∧
      (buf[0].getLsbD 7 = true → Unanswered v) := by
  have hreply : u.listen.nextReply = s.replyAt n := h.nextReply_eq
  obtain ⟨v, hv, ⟨hhist, hrep, hafter, hcmd, hres⟩, hok, -⟩ := wcalPollResult u.listen
  obtain ⟨hmir, hclear, hbusy⟩ := hok buf (hreply.trans hbuf)
  have hmir' : v.mirror = s.mirror.decode .detectionStatus buf[0] := hmir.trans (h.mirror buf[0])
  refine ⟨v, (stepWhilePollingPollsAgain u hp (h.resetNow_eq hno)).trans hv,
    ⟨?_, ?_, hafter.trans h.repliesAfter, hcmd.trans h.commands, ?_, fun b => by rw [hmir']; rfl⟩,
    hmir', hclear, hbusy⟩
  · rw [hhist, hreply, State.listen_history, h.history]
    simp [List.range_succ]
  · rw [hrep, State.listen_replies, h.replies, List.tail_drop]
  · rw [hres, State.listen_resets, h.resets, List.tail_drop]

/-- While the coming replies read "calibrating" and no reset comes, WCAL polls once a step and does not answer. -/
theorem run_calibrating (s : State) (hs : Unanswered s) (hno : NoReset s.resets) (n : Nat)
    (hc : ∀ i < n, ReadsCalibrating (s.replyAt i)) :
    ∃ u : State, Host.Core.run core n s = .next u ∧ Unanswered u ∧ PollsMade s n u := by
  induction n with
  | zero => exact ⟨s, rfl, hs, pollsMade_zero s⟩
  | succ n ih =>
    obtain ⟨u, hrun, ⟨hp, -⟩, hu⟩ := ih fun i hi => hc i (by omega)
    obtain ⟨buf, hbuf, hbit⟩ := hc n (by omega)
    obtain ⟨v, hv, hmade, -, -, hgo⟩ := hu.poll hp hno buf hbuf
    exact ⟨v, (run_succ_of_run core n s u hrun).trans hv, hgo hbit, hmade⟩

/-- Settles O50: every coming reply is the steady one. -/
theorem wcalNeverEndsWhileCalibrating : Obligations.WcalNeverEndsWhileCalibrating := by
  intro s r hp hresp hno hnil hafter hc n
  have hreply : ∀ i, s.replyAt i = r := fun i => by simp [State.replyAt, hnil, hafter]
  obtain ⟨t, hrun, ⟨hpoll, hnone⟩, ht⟩ :=
    run_calibrating s ⟨hp, hresp⟩ hno n fun i _ => (hreply i).symm ▸ hc
  refine ⟨t, hrun, hpoll, hnone, ?_⟩
  simp [ht.history, show s.replyAt = fun _ => r from funext hreply, List.map_const']

/-! ### Scripted replies (R301) -/

section
variable {s : State} {rs more : List DeviceReply} (h : s.replies = rs ++ more)
include h

theorem replyAt_scripted (i : Nat) (hi : i < rs.length) : s.replyAt i = rs[i] := by
  simp [State.replyAt, h, List.getElem?_append_left hi, hi]

theorem map_replyAt_scripted (n : Nat) (hn : n ≤ rs.length) : (List.range n).map s.replyAt = rs.take n := by
  refine List.ext_getElem (by simp [hn]) fun i hi _ => ?_
  rw [List.length_map, List.length_range] at hi
  simp [replyAt_scripted h i (by omega)]

/-- WCAL goes on through the replies of a script that read "calibrating". -/
theorem run_scripted (hs : Unanswered s) (hno : NoReset s.resets) (n : Nat) (hn : n ≤ rs.length)
    (hc : ∀ r ∈ rs.take n, ReadsCalibrating r) :
    ∃ u : State, Host.Core.run core n s = .next u ∧ Unanswered u ∧ PollsMade s n u := by
  refine run_calibrating s hs hno n fun i hi => hc _ ?_
  rw [← map_replyAt_scripted h n hn]
  exact List.mem_map_of_mem (List.mem_range.mpr hi)

end

/-- Settles O49: the run is that of an RCD that polls already (`step_of_presents_wcal`): it goes on through the
calibrating replies (`run_calibrating`), and the poll after them reads the flag clear. -/
theorem wcalReadsOncePerPoll : Obligations.WcalReadsOncePerPoll := by
  intro s rest busy last more hpres hno hreplies hbusy hclear
  have hstart := step_of_presents_wcal s rest hpres
  have hscript : (keepPolling (s.take rest)).replies = (busy ++ [.ok last]) ++ more := by simp [hreplies]
  have htake : ∀ n ≤ busy.length, (busy ++ [DeviceReply.ok last]).take n = busy.take n :=
    fun n hn => List.take_append_of_le_length hn
  have hgoes : ∀ n ≤ busy.length, ∃ u : State, Host.Core.run core n (keepPolling (s.take rest)) = .next u ∧
      Unanswered u ∧ PollsMade (keepPolling (s.take rest)) n u := fun n hn =>
    run_scripted hscript ⟨rfl, rfl⟩ hno n (by simp; omega) fun r hr =>
      hbusy r (List.mem_of_mem_take (htake n hn ▸ hr))
  constructor
  · intro n hpos hn
    obtain ⟨u, hrun, ⟨hpoll, hresp⟩, hu⟩ := hgoes n hn
    obtain ⟨k, rfl⟩ := Nat.exists_eq_add_of_le' hpos
    refine ⟨u, (run_succ_congr core k s _ hstart).trans hrun, hpoll, hresp, ?_⟩
    rw [hu.history, map_replyAt_scripted hscript _ (by simp; omega), htake _ hn]
    rfl
  · obtain ⟨u, hrun, ⟨hpoll, -⟩, hu⟩ := hgoes busy.length le_rfl
    have hlast : (keepPolling (s.take rest)).replyAt busy.length = .ok last := by simp [replyAt_scripted hscript]
    obtain ⟨t, ht, hmade, hmir, hans, -⟩ := hu.poll hpoll hno last hlast
    have hrun' := (run_succ_of_run core _ _ u hrun).trans ht
    refine ⟨t, (run_succ_congr core _ s _ hstart).trans hrun', hans hclear, ?_, hmir, ?_, hmade.commands⟩
    · rw [hmade.history, map_replyAt_scripted hscript _ (by simp), List.take_of_length_le (by simp)]
      rfl
    · rw [hmade.replies, hscript]
      exact List.drop_left' (by simp)

end Sys2Proof.Machine

/-! Abnormal ends of a command (60_exceptions.md): a key out of range, the one step that is not defined, and the
transport's error. -/

namespace Sys2Proof.Machine

open Sys2Proof.Safety

/-! ### A key above 6 (R312) -/

/-- Completing a command fails for the key's range only where a key is taken and DATA is legal. -/
theorem complete_keyRange_iff (c : Command) (key d : Byte) :
    c.complete key d = .error .keyRange ↔ c.form.takesKey = true ∧ c.data.ok d = true ∧ 7 ≤ key.toNat := by
  obtain ⟨f | f, rule⟩ := c
  · by_cases hk : key = 0#8 <;> cases hd : rule.ok d <;> simp [Command.complete, Form.takesKey, hk, hd]
  · by_cases hk : key.toNat < 7 <;> cases hd : rule.ok d <;> simp [Command.complete, Form.takesKey, hk, hd]
    omega

/-- R312's words are the words that decoding rejects for their key. -/
theorem keyRangeWord_iff (w : Word) : KeyRangeWord w ↔ decode w = .error .keyRange := by
  cases h : lookup (opField w).toNat (selField w).toNat with
  | error e =>
    have hdec : decode w = .error e := by simp [decode, h]
    have hcause := lookup_error_illegal _ _ e h
    have hill : IllegalWord w := (illegalWord_iff w).mpr ⟨e, hdec, hcause⟩
    have hne : e ≠ .keyRange := by rintro rfl; cases hcause
    simp [KeyRangeWord, hill, hdec, hne]
  | ok c =>
    have hdec : decode w = c.complete (keyField w) (dataField w) := by simp [decode, h]
    obtain ⟨hsel, hkey, hdata⟩ := lookup_fits _ _ c h
    rw [hdec, complete_keyRange_iff, hkey, hdata]
    constructor
    · rintro ⟨hlegal, htakes, h7⟩
      exact ⟨htakes, not_not.mp fun hbad => hlegal (.inr (.inr hbad)), h7⟩
    · rintro ⟨htakes, hd, h7⟩
      exact ⟨by simp [IllegalWord, hsel, htakes, hd], htakes, h7⟩

/-- A word of a per-key selector that decodes has a key of at most 6. -/
theorem keyField_lt_of_decode_ok (w : Word) (i : Instr) (hk : TakesKey (opField w).toNat (selField w).toNat)
    (h : decode w = .ok i) : (keyField w).toNat < 7 := by
  obtain ⟨c, hc, hi⟩ := decode_eq_ok w i h
  have htakes := (lookup_fits _ _ c hc).key.mpr hk
  obtain ⟨-, ⟨f, hf, -⟩ | ⟨f, k, -, hkey, -⟩⟩ := complete_eq_ok c _ _ i hi
  · simp [hf, Form.takesKey] at htakes
  · rw [hkey, keyByte_toNat]
    exact k.isLt

theorem rejected_raise_keyRange (s : State) : Rejected s (raise .keyRange s) .errKey :=
  ⟨rfl, rfl, rfl, rfl, rfl, _, rfl⟩

/-- Settles O5: `keyRangeWord_iff`, and the step of a rejected word. -/
theorem keyAboveSixEndsWithErrKey : Obligations.KeyAboveSixEndsWithErrKey := by
  refine ⟨keyRangeWord_iff, ?_, ?_⟩
  · intro w hk h7 i hd
    exact Nat.not_lt.mpr h7 (keyField_lt_of_decode_ok w i hk hd)
  · intro s w rest hp hw
    exact ⟨_, step_of_presents_error s w rest .keyRange hp ((keyRangeWord_iff w).mp hw),
      rejected_raise_keyRange (s.listen.take rest), rfl⟩

/-! ### The step that is not defined (R310, R315; 70_reset_and_hazards.md R341) -/

/-- Every command answers a next state. -/
theorem exec_next (i : Instr) (s : State) : ∃ t, exec i s = .next t := by
  rcases exec_cases i s with ⟨d, f, he, -⟩ | ⟨r, b, rfl⟩ | ⟨-, he⟩ | ⟨r, upd, -, -, -, he⟩ | rfl | ⟨r, rfl⟩ | rfl
  · exact ⟨_, he⟩
  · exact ⟨_, rfl⟩
  · exact ⟨_, he⟩
  · exact ⟨_, he⟩
  all_goals exact ⟨_, rfl⟩

/-- A turn that comes to anything has a next state. -/
theorem step_next_of_fetch (s : State) (h : fetch s ≠ .noStep) : ∃ t, step s = .next t := by
  cases hf : fetch s with
  | runs i s1 => rw [step_of_runs s s1 i hf]; exact exec_next i s1
  | ends s1 => exact ⟨s1, step_of_ends s s1 hf⟩
  | noStep => exact absurd hf h

theorem not_resetAllowed_iff (s : State) :
    ¬ ResetAllowed s ↔
      ∃ w rest, s.resetNow = .inside ∧ s.polling = false ∧ s.commands = w :: rest ∧ decode w ≠ .ok .wcal := by
  rcases hc : s.commands with _ | ⟨w, rest⟩ <;> simp [ResetAllowed, hc]

/-- Reset inside a command other than WCAL, or inside a word's rejection, leaves no step. -/
theorem fetch_of_reset_inside_word (s : State) (w : Word) (rest : List Word) (hr : s.resetNow = .inside)
    (hp : s.polling = false) (hc : s.commands = w :: rest) (hd : decode w ≠ .ok .wcal) : fetch s = .noStep := by
  cases h : decode w with
  | ok i =>
    have hi : i ≠ .wcal := by rintro rfl; exact hd h
    simp [fetch, hr, nextCommand, hp, hc, accept, h, hi]
  | error e => simp [fetch, hr, nextCommand, hp, hc, accept, h]

/-- The turns that come to nothing are those in which reset is not allowed. -/
theorem fetch_eq_noStep_iff (s : State) : fetch s = .noStep ↔ ¬ ResetAllowed s := by
  rw [not_resetAllowed_iff]
  constructor
  · intro h
    rcases fetch_cases s with ⟨-, -, hf⟩ | ⟨w, rest, i, -, -, -, -, hf⟩ | ⟨w, rest, e, -, -, -, -, hf⟩ |
      ⟨-, -, -, hf⟩ | ⟨-, hf⟩ | ⟨-, -, hf⟩ | ⟨w, rest, -, -, -, -, hf⟩ | ⟨w, rest, hr, hp, hc, hd, -⟩
    on_goal 8 => exact ⟨w, rest, hr, hp, hc, hd⟩
    -- every other turn runs a command or ends
    all_goals cases hf.symm.trans h
  · rintro ⟨w, rest, hr, hp, hc, hd⟩
    exact fetch_of_reset_inside_word s w rest hr hp hc hd

/-- Settles O11: a turn comes to nothing exactly where reset is not allowed, and every other turn has a next state. -/
theorem onlyAResetInMidCommandStopsAStep : Obligations.OnlyAResetInMidCommandStopsAStep := by
  refine ⟨fun s hs => ?_, fun s hs => ?_, exec_next⟩
  · exact step_next_of_fetch s fun hf => (fetch_eq_noStep_iff s).mp hf hs
  · exact step_of_noStep s ((fetch_eq_noStep_iff s).mpr hs)

/-! ### The transport's error (R313; 20_memory.md R97) -/

theorem onBus_eq_err_iff (x : DeviceReply) (n : Nat) (e : TErr) : onBus x n = .err e ↔ x = .err e := by
  cases x <;> simp [onBus]

theorem failedWith_unique {t : State} {e e' : TErr} (h : FailedWith t e) (h' : FailedWith t e') : e = e' := by
  obtain ⟨-, hr⟩ := h
  obtain ⟨-, hr'⟩ := h'
  cases hr.symm.trans hr'
  rfl

theorem not_failedWith_of_answered {t : State} {st : Status} {d : Half} {f : Bool} (h : Answered t st d f)
    (hst : st ≠ .errTransport) (e : TErr) : ¬ FailedWith t e := by
  rintro ⟨-, hfailed⟩
  obtain ⟨-, te, hr⟩ := h
  cases hr.symm.trans hfailed
  exact hst rfl

/-- A command from `s` to `t` has failed with a transport's error exactly when the one transaction it issued was answered
with that error. -/
def FailsByTransaction (s t : State) : Prop :=
  ∀ e, FailedWith t e ↔ ∃ ev, t.history = s.history ++ [ev] ∧ ev.reply = .err e

/-- A command that issues nothing, and answers another status. -/
theorem failsByTransaction_of_noTraffic {s t : State} {st : Status} {d : Half} {f : Bool} (hn : NoTraffic s t)
    (ha : Answered t st d f) (hst : st ≠ .errTransport) : FailsByTransaction s t := by
  intro e
  obtain ⟨hh, -⟩ := hn
  simp [hh, not_failedWith_of_answered ha hst e]

/-- A command that issues one transaction, fails where its reply is an error, and nowhere else. -/
theorem failsByTransaction_of_transaction {s t : State} {ev : BusEvent} (n : Nat) (ho : OneTransaction s t ev)
    (hev : ev.reply = onBus s.nextReply n) (hok : ∀ buf, s.nextReply = .ok buf → ∀ e, ¬ FailedWith t e)
    (herr : ∀ e, s.nextReply = .err e → FailedWith t e) : FailsByTransaction s t := by
  intro e
  obtain ⟨hh, -⟩ := ho
  have hfail : FailedWith t e ↔ s.nextReply = .err e := by
    refine ⟨fun h => ?_, herr e⟩
    cases hr : s.nextReply with
    | ok buf => exact absurd h (hok buf hr e)
    | err e' => rw [failedWith_unique h (herr e' hr)]
  simp [hh, hfail, hev, onBus_eq_err_iff]

theorem failsByTransaction_writeThrough (r : Reg) (upd : Mirror → Mirror) (s : State) :
    FailsByTransaction s (writeThrough r upd s) := by
  obtain ⟨-, ho, hok, herr⟩ := wroteThrough_writeThrough r upd s
  exact failsByTransaction_of_transaction 0 ho rfl
    (fun buf hr => not_failedWith_of_answered (hok buf hr) nofun) herr

theorem failsByTransaction_execSynca (s t : State) (h : execSynca s = .next t) : FailsByTransaction s t := by
  obtain ⟨t', ht, ho, hok, herr⟩ := syncaResult s
  cases ht.symm.trans h
  exact failsByTransaction_of_transaction 58 ho rfl
    (fun buf hr => not_failedWith_of_answered (hok buf hr).2 nofun) (fun e hr => (herr e hr).2)

theorem failsByTransaction_execSync1 (r : Reg) (s t : State) (h : execSync1 r s = .next t) :
    FailsByTransaction s t := by
  obtain ⟨t', ht, ho, hok, herr⟩ := sync1Result r s
  cases ht.symm.trans h
  refine failsByTransaction_of_transaction 1 ho rfl (fun buf hr => ?_) (fun e hr => (herr e hr).2)
  obtain ⟨-, -, ha⟩ := hok buf hr
  exact not_failedWith_of_answered ha nofun

/-- A poll of WCAL that succeeds answers OK or goes on polling, and neither is a failure (44_system.md R303). -/
theorem failsByTransaction_execWcal (s t : State) (h : execWcal s = .next t) : FailsByTransaction s t := by
  obtain ⟨t', ht, ho, hok, herr⟩ := wcalPollResult s
  cases ht.symm.trans h
  refine failsByTransaction_of_transaction 1 ho rfl (fun buf hr => ?_) (fun e hr => (herr e hr).2)
  obtain ⟨-, hclear, hbusy⟩ := hok buf hr
  cases hb : buf[0].getLsbD 7
  · exact not_failedWith_of_answered (hclear hb) nofun
  · obtain ⟨hp, -⟩ := hbusy hb
    rintro e ⟨hidle, -⟩
    cases hp.symm.trans hidle

/-- Settles O56: by the shape of the command. One that issues nothing answers another status; a write or a read fails
exactly with its reply. -/
theorem transportErrorExactlyWhenTheTransactionFailed : Obligations.TransportErrorExactlyWhenTheTransactionFailed := by
  intro i s t e h
  have hfails : FailsByTransaction s t := by
    rcases exec_cases i s with ⟨d, f, he, -⟩ | ⟨r, b, rfl⟩ | ⟨-, he⟩ | ⟨r, upd, -, -, -, he⟩ | rfl | ⟨r, rfl⟩ | rfl
    · cases he.symm.trans h
      exact failsByTransaction_of_noTraffic (noTraffic_respond d f s) (answered_ok_respond d f s) nofun
    · cases h
      exact failsByTransaction_of_noTraffic (noTraffic_respond _ _ (s.setMirror _)) (answered_ok_respond _ _ _) nofun
    · cases he.symm.trans h
      exact failsByTransaction_of_noTraffic (noTraffic_raise .illegal s) ⟨rfl, _, rfl⟩ nofun
    · cases he.symm.trans h
      exact failsByTransaction_writeThrough r upd s
    · exact failsByTransaction_execSynca s t h
    · exact failsByTransaction_execSync1 r s t h
    · exact failsByTransaction_execWcal s t h
  exact hfails e

end Sys2Proof.Machine

/-! The reset input and power-on (70_reset_and_hazards.md R340 to R342): reset where nothing executes, reset inside a
poll of WCAL, and the two invariants at power-on. -/

namespace Sys2Proof.Machine

open Sys2Proof.Safety

/-! ### What a turn comes to under reset (R341) -/

theorem fetch_of_reset_between (s : State) (hr : s.resetNow = .between) : fetch s = .ends (applyReset s.listen) := by
  simp [fetch, hr]

/-- Where nothing executes `inside` is no different from `between`. -/
theorem fetch_of_reset_inside_idle (s : State) (hr : s.resetNow = .inside) (hp : s.polling = false)
    (hc : s.commands = []) : fetch s = .ends (applyReset s.listen) := by
  simp [fetch, hr, nextCommand, hp, hc]

theorem fetch_of_reset_inside_poll (s : State) (hr : s.resetNow = .inside) (hp : s.polling = true) :
    fetch s = .ends (abandonPoll s.listen) := by
  simp [fetch, hr, nextCommand, hp]

theorem fetch_of_reset_inside_first_poll (s : State) (w : Word) (rest : List Word) (hr : s.resetNow = .inside)
    (hp : s.polling = false) (hc : s.commands = w :: rest) (hd : decode w = .ok .wcal) :
    fetch s = .ends (abandonPoll (s.listen.take rest)) := by
  simp [fetch, hr, nextCommand, hp, hc, accept, hd]

/-! ### The reset input -/

/-- Settles O9: a later poll and the first one both end in `abandonPoll`, which looks at no reply; the first has taken
its word. -/
theorem resetInAPollEndsWcalWithoutAResponse : Obligations.ResetInAPollEndsWcalWithoutAResponse := by
  refine fun s hr => ⟨fun hp => ?_, fun w rest hp hc hd => ?_⟩
  · exact ⟨_, step_of_ends s _ (fetch_of_reset_inside_poll s hr hp), rfl, rfl, rfl, rfl, rfl, rfl⟩
  · exact ⟨_, step_of_ends s _ (fetch_of_reset_inside_first_poll s w rest hr hp hc hd), rfl, rfl, rfl, rfl, rfl, rfl⟩

/-- Settles O8: both turns end in `applyReset` of the state that has listened. -/
theorem resetInputRestoresTheMirrorOnly : Obligations.ResetInputRestoresTheMirrorOnly := by
  rintro s (hr | ⟨hr, hp, hc⟩)
  · exact step_of_ends s _ (fetch_of_reset_between s hr)
  · exact step_of_ends s _ (fetch_of_reset_inside_idle s hr hp hc)

/-! ### Power-on (R342) -/

theorem busOk_of_history_nil (s : State) (h : s.history = []) : BusOk s := by simp [BusOk, h]

/-- Settles O53: the history is empty, and RCD is idle. -/
theorem invariantsHoldAtReset : Obligations.InvariantsHoldAtReset :=
  ⟨busOk_of_history_nil State.reset rfl, pollingOk_of_idle State.reset rfl⟩

end Sys2Proof.Machine
